-- ==== Sys2Proof/Word.lean ====
section
/-! DEFINITION. The fixed widths of the block (spec 00_scope.md R7, R9): the 32-bit instruction word and
address, the 5-bit register index, the 16-bit immediate and the 26-bit jump target field. -/

namespace Sys2Proof

/-- A 32-bit value: an instruction word, an instruction address or a symbol-table key (R7). Arithmetic on it is
modulo 2^32 (R9). -/
abbrev Word := BitVec 32

/-- A 5-bit register index, shift amount or REGIMM selector (R7). -/
abbrev RegIx := BitVec 5

/-- The 16-bit immediate field (R7). -/
abbrev Imm16 := BitVec 16

/-- The 26-bit jump target field (R7). -/
abbrev Target26 := BitVec 26

end Sys2Proof
end

