-- ==== Sys2Proof/Config.lean ====
section
/-! DEFINITION. The parameters spec 00_scope.md R8 names, as types, and the one free value of the model. The value this
hardware has for each parameter stands where it is used: `regimmSelector` in Decode.lean, `pSentinel`,
`pShamtRender` and `pRegNames` in Machine/Operands.lean. -/

namespace Sys2Proof.Config

/-- `P_SHAMT_RENDER` (R8, R103, R105): how a shift amount is spelled. -/
inductive ShamtRender where
  | REGISTER
  | DECIMAL
  deriving DecidableEq, Repr

/-- FREE VALUE (R50, 92_eei_decisions.md D24, log entry 2). When the caller changes the symbol table while a
transaction runs, `Lookup` answers from the old or from the new contents, and the spec fixes neither: `true` stands
for the new contents. It is applied to the number of such transactions so far, so each has a value of its own. -/
opaque lookupSeesNewTable : Nat → Bool

end Sys2Proof.Config
end

