-- ==== Sys2Proof/Machine/State.lean ====
section
/-! DEFINITION. The machine's state: the values on the ports of 10_state.md R20 as plain data. The block itself keeps
nothing from one transaction to the next (R33); what stands here is what its environment holds on the input ports and
what the last transaction left on the output ports. The decoded record is the type of 40_datapath.md R100. -/

namespace Sys2Proof.Machine

/-! ### The decoded record (R100) -/

/-- The mnemonics of R100, spelled as it spells them. -/
inductive Mnemonic where
  | SLL | SRL | SRA | SLLV | SRLV | SRAV | JR | JALR | SYSCALL
  | ADD | ADDU | SUB | SUBU | AND | OR | XOR | NOR | SLT | SLTU
  | BLTZ | BGEZ | BLTZAL | BGEZAL | J | JAL | BEQ | BNE | BLEZ | BGTZ
  | ADDI | ADDIU | SLTI | SLTIU | ANDI | ORI | XORI | LUI | CP0
  | LB | LH | LWL | LW | LBU | LHU | LWR | SB | SH | SWL | SW | SWR
  | NOP | MOVE | B | BAL
  deriving DecidableEq, Repr

/-- A label of the symbol table: a string, copied unchanged into the output (R12, R41). -/
abbrev Label := String

/-- An operand of a decoded instruction (R100). -/
inductive Operand where
  | reg   (i : RegIx)
  | shamt (s : RegIx)
  | imm   (v : Int)
  | mem   (off : Int) (base : RegIx)
  | brTgt (off : Int) (tgt : Word) (label : Option Label)
  | jTgt  (field : Target26) (tgt : Word) (label : Option Label)
  deriving DecidableEq, Repr

/-- The `record` output (R100). -/
inductive Record where
  | unsupported
  | insn (mn : Mnemonic) (ops : List Operand)
  deriving DecidableEq, Repr

/-! ### The symbol table (20_memory.md R41) -/

/-- The caller's mapping from 32-bit addresses to labels, as a list whose keys rise strictly. -/
abbrev SymTab := List (Word × Label)

/-! ### The state -/

/-- The ports of the block (R20), and the model's own bookkeeping for a symbol table that changes under a transaction
(R50). -/
structure State where
  /-- Input: the instruction to decode (R21). -/
  word : Word
  /-- Input: the address the caller assigns to `word` (R22). -/
  address : Word
  /-- Input: 1 spells registers by name, 0 by number (R26). -/
  useRegNames : Bool
  /-- Input: 1 enables the five pseudo forms (R26). -/
  pseudoInstructions : Bool
  /-- The caller's symbol table, behind the `Lookup` port (R41). -/
  symbols : SymTab
  /-- The contents to which the caller changes the table while the next transaction runs, if it does (R50). -/
  symbolsDuring : Option SymTab
  /-- Output: the address the last transaction put on the `Lookup` port, if it queried it (R20, R44). -/
  lookupRequest : Option Word
  /-- Output: the line of text of the last transaction; no value before the first (R23, R290). -/
  text : Option String
  /-- Output: the decoded record of the last transaction; no value before the first (R100, R290). -/
  record : Option Record
  /-- MODEL'S OWN (log entry 2): how many transactions ran under a changing table; it indexes the free value. -/
  tableChanges : Nat
  deriving DecidableEq, Repr

/-- The block raises no exception, trap or fault and never aborts (60_exceptions.md R270): there is no fault to name. -/
inductive Fault where
  deriving DecidableEq, Repr

/-- Why the model gives no meaning. The block itself refuses no input (R271). -/
inductive Refusal where
  /-- Raised by an arm of `exec` whose instruction has no meaning yet; no arm does. Safe: nothing is claimed of it. -/
  | notModelled (mnemonic : String)
  deriving DecidableEq, Repr

/-- After power-on or reset (70_reset_and_hazards.md R290): both options 1, no output. The spec gives the other inputs
no value (the host supplies them before each transaction, R292): the word and address 0 and the empty symbol table are
DESIGN CHOICES (log entry 1). -/
def State.reset : State where
  word := 0
  address := 0
  useRegNames := true
  pseudoInstructions := true
  symbols := []
  symbolsDuring := none
  lookupRequest := none
  text := none
  record := none
  tableChanges := 0

end Sys2Proof.Machine
end

