-- ==== Sys2Proof/Machine/Symbols.lean ====
section
/-! DEFINITION. The symbol table as data: `Lookup`'s answer (20_memory.md R41), the canonical form, and the host's
operation that adds or changes an entry. The block itself only reads the table (R42). -/

namespace Sys2Proof.Machine

/-- The label under key `a`, by exact equality over all 32 bits (R41). -/
def SymTab.find (t : SymTab) (a : Word) : Option Label :=
  match t with
  | [] => none
  | (k, n) :: rest => if k = a then some n else SymTab.find rest a

/-- The canonical form: keys rise strictly, so a key has at most one label (R41) and equal mappings are equal lists. -/
def SymTab.wf (t : SymTab) : Bool :=
  match t with
  | [] => true
  | [_] => true
  | e :: e' :: rest => decide (e.1 < e'.1) && SymTab.wf (e' :: rest)

/-- The HOST's operation: map key `a` to `n`. -/
def SymTab.insert (t : SymTab) (a : Word) (n : Label) : SymTab :=
  match t with
  | [] => [(a, n)]
  | (k, m) :: rest =>
    if a < k then (a, n) :: (k, m) :: rest
    else if a = k then (a, n) :: rest
    else (k, m) :: SymTab.insert rest a n

/-- The HOST's operation: remove key `a`. -/
def SymTab.erase (t : SymTab) (a : Word) : SymTab :=
  t.filter (fun e => e.1 != a)

end Sys2Proof.Machine
end

