-- ==== Sys2Proof/Machine/Operands.lean ====
section
/-! DEFINITION. The operands and their spelling: the register LUT (10_state.md R24, R25, R30), the immediate (R67), the
branch and jump targets (40_datapath.md R110, R111), decimal numbers (R120, R121), the operand formatter (R103) and the
line assembler (R122, R123), with the values this hardware has for the parameters of 00_scope.md R8. -/

namespace Sys2Proof.Machine

/-! ### Numbers (R120, R121) -/

/-- The ASCII digit of value `d < 10`. -/
def digitChar (d : Nat) : Char := Char.ofNat (48 + d)

/-- The decimal digits of `n`, most significant first; the first argument bounds the recursion. -/
def digits : Nat → Nat → List Char
  | 0, n => [digitChar (n % 10)]
  | fuel + 1, n => if n < 10 then [digitChar n] else digits fuel (n / 10) ++ [digitChar (n % 10)]

/-- `dec_u(n)` (R121). -/
def decU (n : Nat) : String := String.ofList (digits n n)

/-- `dec_s(v)` (R120). -/
def decS (v : Int) : String :=
  if v < 0 then "-" ++ decU (-v).toNat else decU v.toNat

/-! ### Registers (R24, R25, R30) -/

/-- `P_REG_NAMES` (R8): the register-name ROM `REG_NAME[0..31]` (R24). -/
def pRegNames : Vector String 32 :=
  #v["$zero", "$at", "$v0", "$v1", "$a0", "$a1", "$a2", "$a3",
     "$t0", "$t1", "$t2", "$t3", "$t4", "$t5", "$t6", "$t7",
     "$s0", "$s1", "$s2", "$s3", "$s4", "$s5", "$s6", "$s7",
     "$t8", "$t9", "$k0", "$k1", "$gp", "$sp", "$fp", "$ra"]

/-- The register-index multiplexer `reg(i)` (R30): the name (R24) or the number (R25). -/
def regText (useRegNames : Bool) (i : RegIx) : String :=
  if useRegNames then pRegNames.get i.toFin else "$" ++ decU i.toNat

/-! ### Immediates and targets (R67, R110, R111) -/

/-- `simm = sext_16(imm)`, an integer in -32768..32767 (R67). -/
def simm (imm : Imm16) : Int :=
  if imm.msb then (imm.toNat : Int) - 65536 else imm.toNat

/-- The branch target (R110): `address + 4 + (sext_16(imm) << 2)`, modulo 2^32. -/
def branchTarget (address : Word) (imm : Imm16) : Word :=
  address + 4 + (imm.signExtend 32 <<< 2)

/-- The jump target (R111): the top 4 bits of `address` and the field shifted left by 2. -/
def jumpTarget (address : Word) (target : Target26) : Word :=
  (address &&& 0xF0000000) ||| (target.zeroExtend 32 <<< 2)

/-! ### The operand formatter (R103 to R107, R112) -/

/-- `P_SHAMT_RENDER` (R8): this hardware spells a shift amount through the register LUT (R105). -/
def pShamtRender : Config.ShamtRender := .REGISTER

/-- The spelling of a shift amount under each value of `P_SHAMT_RENDER` (R103, R105). -/
def shamtText (how : Config.ShamtRender) (useRegNames : Bool) (s : RegIx) : String :=
  match how with
  | .REGISTER => regText useRegNames s
  | .DECIMAL => decU s.toNat

/-- `suffix(label)` (R103, R112). -/
def suffix (label : Option Label) : String :=
  match label with
  | none => ""
  | some n => " <" ++ n ++ ">"

/-- `render(o)` (R103). -/
def render (useRegNames : Bool) (o : Operand) : String :=
  match o with
  | .reg i => regText useRegNames i
  | .shamt s => shamtText pShamtRender useRegNames s
  | .imm v => decS v
  | .mem off base => decS off ++ "(" ++ regText useRegNames base ++ ")"
  | .brTgt off _ label => decS off ++ suffix label
  | .jTgt field _ label => decU field.toNat ++ suffix label

/-! ### The line assembler (R122, R123) -/

/-- `NAME(mn)` (R123). -/
def mnemonicText (mn : Mnemonic) : String :=
  match mn with
  | .SLL => "SLL" | .SRL => "SRL" | .SRA => "SRA" | .SLLV => "SLLV" | .SRLV => "SRLV" | .SRAV => "SRAV"
  | .JR => "JR" | .JALR => "JALR" | .SYSCALL => "SYSCALL"
  | .ADD => "ADD" | .ADDU => "ADDU" | .SUB => "SUB" | .SUBU => "SUBU" | .AND => "AND" | .OR => "OR"
  | .XOR => "XOR" | .NOR => "NOR" | .SLT => "SLT" | .SLTU => "SLTU"
  | .BLTZ => "BLTZ" | .BGEZ => "BGEZ" | .BLTZAL => "BLTZAL" | .BGEZAL => "BGEZAL"
  | .J => "J" | .JAL => "JAL" | .BEQ => "BEQ" | .BNE => "BNE" | .BLEZ => "BLEZ" | .BGTZ => "BGTZ"
  | .ADDI => "ADDI" | .ADDIU => "ADDIU" | .SLTI => "SLTI" | .SLTIU => "SLTIU" | .ANDI => "ANDI"
  | .ORI => "ORI" | .XORI => "XORI" | .LUI => "LUI" | .CP0 => "CP0"
  | .LB => "LB" | .LH => "LH" | .LWL => "LWL" | .LW => "LW" | .LBU => "LBU" | .LHU => "LHU" | .LWR => "LWR"
  | .SB => "SB" | .SH => "SH" | .SWL => "SWL" | .SW => "SW" | .SWR => "SWR"
  | .NOP => "NOP" | .MOVE => "MOVE" | .B => "B" | .BAL => "BAL"

/-- The operands' spellings, separated by a comma and one space (R122). -/
def operandsText (useRegNames : Bool) (ops : List Operand) : String :=
  match ops with
  | [] => ""
  | [o] => render useRegNames o
  | o :: o' :: rest => render useRegNames o ++ ", " ++ operandsText useRegNames (o' :: rest)

/-- `P_SENTINEL` (R8): the text of an unsupported word (R102). -/
def pSentinel : String := "unsupported instruction"

/-- The line of a record (R122, R102): a function of the record and `use_reg_names` alone (R142). -/
def lineText (useRegNames : Bool) (r : Record) : String :=
  match r with
  | .unsupported => pSentinel
  | .insn mn [] => mnemonicText mn
  | .insn mn (o :: rest) => mnemonicText mn ++ " " ++ operandsText useRegNames (o :: rest)

end Sys2Proof.Machine
end

