-- ==== Sys2Proof/Machine/Ops.lean ====
section
/-! DEFINITION. The operations every instruction is written from: reading the `Lookup` port (20_memory.md R41, R50),
building a target operand (40_datapath.md R110 to R112), ending a transaction with a record (R122, R140) or with the
sentinel (R102), the end of a table change (R50), and the host's placing of inputs (70_reset_and_hazards.md R292).

There is no exception to take and none to return from (60_exceptions.md R270, R278): the one class of failure is the
sentinel, data that `emitUnsupported` puts on the ports. -/

namespace Sys2Proof.Machine

/-- What an instruction answers. -/
abbrev Answer := Host.Outcome State Fault Refusal

/-! ### The Lookup port -/

/-- `Lookup(a)` (R41). While the caller holds the table constant there is one table to read. If the caller changes it
during this transaction, the answer comes from the old or the new contents, by a free value (R50, log entry 2). -/
def State.lookup (s : State) (a : Word) : Option Label :=
  match s.symbolsDuring with
  | none => SymTab.find s.symbols a
  | some new =>
    if Config.lookupSeesNewTable s.tableChanges then SymTab.find new a else SymTab.find s.symbols a

/-- The end of a transaction under a changing table: the caller's change is complete, and the next transaction sees it
(R50). The change is the caller's: the block never writes the table (R42). -/
def State.settle (s : State) : State :=
  match s.symbolsDuring with
  | none => s
  | some new => { s with symbols := new, symbolsDuring := none, tableChanges := s.tableChanges + 1 }

/-! ### Ending a transaction -/

/-- `record <- r ; emit` its line (R140), with the address the transaction put on the `Lookup` port, if any (R44). -/
def State.emit (r : Record) (request : Option Word) (s : State) : State :=
  { s with record := some r, text := some (lineText s.useRegNames r), lookupRequest := request }

/-- An unsupported word ends at dispatch: the sentinel, and no query (R102). -/
def State.emitUnsupported (s : State) : State :=
  s.emit .unsupported none

/-- An instruction without a target operand: no query (R113). -/
def emitPlain (mn : Mnemonic) (ops : List Operand) (s : State) : Answer :=
  .next (s.emit (.insn mn ops) none)

/-- A branch: `ops`, then the branch target with its `Lookup` answer (R110, R112). -/
def emitBranch (mn : Mnemonic) (ops : List Operand) (imm : Imm16) (s : State) : Answer :=
  let tgt := branchTarget s.address imm
  .next (s.emit (.insn mn (ops ++ [.brTgt (simm imm) tgt (s.lookup tgt)])) (some tgt))

/-- A direct jump: the jump target with its `Lookup` answer (R111, R112). -/
def emitJump (mn : Mnemonic) (target : Target26) (s : State) : Answer :=
  let tgt := jumpTarget s.address target
  .next (s.emit (.insn mn [.jTgt target tgt (s.lookup tgt)]) (some tgt))

/-! ### The templates shared by a group (R101) -/

/-- `Reg rd, Reg rt, Shamt shamt`: SLL, SRL, SRA. -/
def emitShift (mn : Mnemonic) (rt rd shamt : RegIx) (s : State) : Answer :=
  emitPlain mn [.reg rd, .reg rt, .shamt shamt] s

/-- `Reg rd, Reg rt, Reg rs`: SLLV, SRLV, SRAV. -/
def emitShiftVariable (mn : Mnemonic) (rs rt rd : RegIx) (s : State) : Answer :=
  emitPlain mn [.reg rd, .reg rt, .reg rs] s

/-- `Reg rd, Reg rs, Reg rt`: the register-register ALU group. -/
def emitAlu (mn : Mnemonic) (rs rt rd : RegIx) (s : State) : Answer :=
  emitPlain mn [.reg rd, .reg rs, .reg rt] s

/-- `Reg rt, Reg rs, Imm simm`: the immediate ALU group but LUI. -/
def emitAluImm (mn : Mnemonic) (rs rt : RegIx) (imm : Imm16) (s : State) : Answer :=
  emitPlain mn [.reg rt, .reg rs, .imm (simm imm)] s

/-- `Reg rt, Mem simm rs`: loads and stores. -/
def emitMem (mn : Mnemonic) (rs rt : RegIx) (imm : Imm16) (s : State) : Answer :=
  emitPlain mn [.reg rt, .mem (simm imm) rs] s

/-! ### The host's side -/

/-- What the host supplies before a transaction (R292). -/
structure Inputs where
  word : Word
  address : Word
  useRegNames : Bool
  pseudoInstructions : Bool
  symbols : SymTab
  deriving DecidableEq, Repr

/-- The host places the inputs of the next transaction and holds the table constant for it (R292, R297). -/
def State.supply (x : Inputs) (s : State) : State :=
  { s with
    word := x.word
    address := x.address
    useRegNames := x.useRegNames
    pseudoInstructions := x.pseudoInstructions
    symbols := x.symbols
    symbolsDuring := none }

/-- The zero-configuration convenience form (10_state.md R36): address 0, an empty table, the default options (R28). -/
def Inputs.zeroConfig (word : Word) : Inputs where
  word := word
  address := 0
  useRegNames := true
  pseudoInstructions := true
  symbols := []

/-- A host's listing (70_reset_and_hazards.md R293): word `k` at address `base + 4·k`, the options and the table held. -/
def listing (base : Word) (names pseudo : Bool) (symbols : SymTab) : List Word → List Inputs
  | [] => []
  | w :: ws => ⟨w, base, names, pseudo, symbols⟩ :: listing (base + 4) names pseudo symbols ws

end Sys2Proof.Machine
end

