-- ==== Sys2Proof/Machine/AluImmediate.lean ====
section
/-! DEFINITION. Immediate ALU instructions (spec 47_alu_immediate.md R220 to R228): every immediate is spelled as a
signed number, those of ANDI, ORI, XORI and LUI among them (R228). -/

namespace Sys2Proof.Machine

/-- ADDI (R220). -/
def execAddi (rs rt : RegIx) (imm : Imm16) (s : State) : Answer := emitAluImm .ADDI rs rt imm s

/-- ADDIU (R221). -/
def execAddiu (rs rt : RegIx) (imm : Imm16) (s : State) : Answer := emitAluImm .ADDIU rs rt imm s

/-- SLTI (R222). -/
def execSlti (rs rt : RegIx) (imm : Imm16) (s : State) : Answer := emitAluImm .SLTI rs rt imm s

/-- SLTIU (R223). -/
def execSltiu (rs rt : RegIx) (imm : Imm16) (s : State) : Answer := emitAluImm .SLTIU rs rt imm s

/-- ANDI (R224). -/
def execAndi (rs rt : RegIx) (imm : Imm16) (s : State) : Answer := emitAluImm .ANDI rs rt imm s

/-- ORI (R225). -/
def execOri (rs rt : RegIx) (imm : Imm16) (s : State) : Answer := emitAluImm .ORI rs rt imm s

/-- XORI (R226). -/
def execXori (rs rt : RegIx) (imm : Imm16) (s : State) : Answer := emitAluImm .XORI rs rt imm s

/-- LUI (R227): the field as it stands, not shifted. -/
def execLui (rt : RegIx) (imm : Imm16) (s : State) : Answer := emitPlain .LUI [.reg rt, .imm (simm imm)] s

end Sys2Proof.Machine
end

