-- ==== Sys2Proof/Syntax.lean ====
section
/-! DEFINITION. The instructions the block decodes: one constructor per row of spec/opcode_table.json, the 49 base
mnemonics, the CP0 placeholder and the five pseudo forms. A constructor holds EVERY field of its word, the don't-care
fields of 30_encoding.md R74 among them, so that no bit of a word is lost; fields stand in the order of their bits. -/

namespace Sys2Proof

/-- An instruction word taken apart (30_encoding.md R60 to R72; pseudo rows 40_datapath.md R130). -/
inductive Instr where
  -- SPECIAL group, opcode 0x00 (R71)
  | sll  (rs rt rd : RegIx) (shamt : RegIx)
  | srl  (rs rt rd : RegIx) (shamt : RegIx)
  | sra  (rs rt rd : RegIx) (shamt : RegIx)
  | sllv (rs rt rd : RegIx) (shamt : RegIx)
  | srlv (rs rt rd : RegIx) (shamt : RegIx)
  | srav (rs rt rd : RegIx) (shamt : RegIx)
  | jr   (rs rt rd : RegIx) (shamt : RegIx)
  | jalr (rs rt rd : RegIx) (shamt : RegIx)
  | syscall (code : BitVec 20)
  | add  (rs rt rd : RegIx) (shamt : RegIx)
  | addu (rs rt rd : RegIx) (shamt : RegIx)
  | sub  (rs rt rd : RegIx) (shamt : RegIx)
  | subu (rs rt rd : RegIx) (shamt : RegIx)
  | and  (rs rt rd : RegIx) (shamt : RegIx)
  | or   (rs rt rd : RegIx) (shamt : RegIx)
  | xor  (rs rt rd : RegIx) (shamt : RegIx)
  | nor  (rs rt rd : RegIx) (shamt : RegIx)
  | slt  (rs rt rd : RegIx) (shamt : RegIx)
  | sltu (rs rt rd : RegIx) (shamt : RegIx)
  -- REGIMM group, opcode 0x01, selected by rt (R72)
  | bltz   (rs : RegIx) (imm : Imm16)
  | bgez   (rs : RegIx) (imm : Imm16)
  | bltzal (rs : RegIx) (imm : Imm16)
  | bgezal (rs : RegIx) (imm : Imm16)
  -- primary opcodes 0x02 to 0x10 (R70)
  | j    (target : Target26)
  | jal  (target : Target26)
  | beq  (rs rt : RegIx) (imm : Imm16)
  | bne  (rs rt : RegIx) (imm : Imm16)
  | blez (rs rt : RegIx) (imm : Imm16)
  | bgtz (rs rt : RegIx) (imm : Imm16)
  | addi  (rs rt : RegIx) (imm : Imm16)
  | addiu (rs rt : RegIx) (imm : Imm16)
  | slti  (rs rt : RegIx) (imm : Imm16)
  | sltiu (rs rt : RegIx) (imm : Imm16)
  | andi  (rs rt : RegIx) (imm : Imm16)
  | ori   (rs rt : RegIx) (imm : Imm16)
  | xori  (rs rt : RegIx) (imm : Imm16)
  | lui   (rs rt : RegIx) (imm : Imm16)
  | cp0   (code : BitVec 26)
  -- loads and stores, primary opcodes 0x20 to 0x2E (R70)
  | lb  (rs rt : RegIx) (imm : Imm16)
  | lh  (rs rt : RegIx) (imm : Imm16)
  | lwl (rs rt : RegIx) (imm : Imm16)
  | lw  (rs rt : RegIx) (imm : Imm16)
  | lbu (rs rt : RegIx) (imm : Imm16)
  | lhu (rs rt : RegIx) (imm : Imm16)
  | lwr (rs rt : RegIx) (imm : Imm16)
  | sb  (rs rt : RegIx) (imm : Imm16)
  | sh  (rs rt : RegIx) (imm : Imm16)
  | swl (rs rt : RegIx) (imm : Imm16)
  | sw  (rs rt : RegIx) (imm : Imm16)
  | swr (rs rt : RegIx) (imm : Imm16)
  -- pseudo rows (R130): the words of a base row that the pseudo stage picks out
  | nop
  | move (rs rd : RegIx) (shamt : RegIx)
  | jalrOneOperand (rs rt : RegIx) (shamt : RegIx)
  | bal (imm : Imm16)
  | b   (imm : Imm16)
  deriving DecidableEq, Repr

end Sys2Proof
end

