-- ==== Sys2Proof/Decode.lean ====
section
/-! DEFINITION. From a word to an instruction and back: the field extractor (30_encoding.md R61 to R69), the two-level
dispatch (R70 to R72), the pseudo-instruction combinator's choice of row (40_datapath.md R130), and the encoder written
from the same formats (R60). Decoding is total: a word is an instruction or is rejected by the name of its cause
(60_exceptions.md R271). -/

namespace Sys2Proof

/-! ### Field extraction -/

/-- Every field the extractor cuts from every word, whatever its format (R69). -/
structure Fields where
  opcode : BitVec 6
  rs     : RegIx
  rt     : RegIx
  rd     : RegIx
  shamt  : RegIx
  funct  : BitVec 6
  imm    : Imm16
  target : Target26
  deriving DecidableEq, Repr

/-- The field extractor (R61 to R69). -/
def extract (w : Word) : Fields where
  opcode := w.extractLsb' 26 6
  rs     := w.extractLsb' 21 5
  rt     := w.extractLsb' 16 5
  rd     := w.extractLsb' 11 5
  shamt  := w.extractLsb' 6 5
  funct  := w.extractLsb' 0 6
  imm    := w.extractLsb' 0 16
  target := w.extractLsb' 0 26

/-- Bits 25..6 of a SYSCALL word, which no template renders (R74). -/
def syscallCode (f : Fields) : BitVec 20 :=
  f.rs ++ f.rt ++ f.rd ++ f.shamt

/-- The field that selects a REGIMM instruction: `P_REGIMM_SELECT = RT` (R72, R8). -/
def regimmSelector (f : Fields) : BitVec 5 := f.rt

/-! ### Dispatch -/

/-- Why a word is unsupported: the three causes U1, U2 and U3 of R271. -/
inductive Cause where
  /-- U1: `opcode` is a dash of the primary map (R70). -/
  | primaryOpcode
  /-- U2: opcode 0x00 and `funct` is a dash of the SPECIAL map (R71). -/
  | specialFunct
  /-- U3: opcode 0x01 and `rt` is a dash of the REGIMM map (R72). -/
  | regimmSelector
  deriving DecidableEq, Repr

/-- The SPECIAL funct map (R71). -/
def dispatchSpecial (f : Fields) : Except Cause Instr :=
  match f.funct.toNat with
  | 0x00 => .ok (.sll f.rs f.rt f.rd f.shamt)
  | 0x02 => .ok (.srl f.rs f.rt f.rd f.shamt)
  | 0x03 => .ok (.sra f.rs f.rt f.rd f.shamt)
  | 0x04 => .ok (.sllv f.rs f.rt f.rd f.shamt)
  | 0x06 => .ok (.srlv f.rs f.rt f.rd f.shamt)
  | 0x07 => .ok (.srav f.rs f.rt f.rd f.shamt)
  | 0x08 => .ok (.jr f.rs f.rt f.rd f.shamt)
  | 0x09 => .ok (.jalr f.rs f.rt f.rd f.shamt)
  | 0x0C => .ok (.syscall (syscallCode f))
  | 0x20 => .ok (.add f.rs f.rt f.rd f.shamt)
  | 0x21 => .ok (.addu f.rs f.rt f.rd f.shamt)
  | 0x22 => .ok (.sub f.rs f.rt f.rd f.shamt)
  | 0x23 => .ok (.subu f.rs f.rt f.rd f.shamt)
  | 0x24 => .ok (.and f.rs f.rt f.rd f.shamt)
  | 0x25 => .ok (.or f.rs f.rt f.rd f.shamt)
  | 0x26 => .ok (.xor f.rs f.rt f.rd f.shamt)
  | 0x27 => .ok (.nor f.rs f.rt f.rd f.shamt)
  | 0x2A => .ok (.slt f.rs f.rt f.rd f.shamt)
  | 0x2B => .ok (.sltu f.rs f.rt f.rd f.shamt)
  | _ => .error .specialFunct

/-- The REGIMM selector map (R72). -/
def dispatchRegimm (f : Fields) : Except Cause Instr :=
  match (regimmSelector f).toNat with
  | 0x00 => .ok (.bltz f.rs f.imm)
  | 0x01 => .ok (.bgez f.rs f.imm)
  | 0x10 => .ok (.bltzal f.rs f.imm)
  | 0x11 => .ok (.bgezal f.rs f.imm)
  | _ => .error .regimmSelector

/-- The dispatcher (R101): the primary opcode map (R70), with the two secondary maps under opcodes 0x00 and 0x01. Its
answer is a base instruction. -/
def dispatch (f : Fields) : Except Cause Instr :=
  match f.opcode.toNat with
  | 0x00 => dispatchSpecial f
  | 0x01 => dispatchRegimm f
  | 0x02 => .ok (.j f.target)
  | 0x03 => .ok (.jal f.target)
  | 0x04 => .ok (.beq f.rs f.rt f.imm)
  | 0x05 => .ok (.bne f.rs f.rt f.imm)
  | 0x06 => .ok (.blez f.rs f.rt f.imm)
  | 0x07 => .ok (.bgtz f.rs f.rt f.imm)
  | 0x08 => .ok (.addi f.rs f.rt f.imm)
  | 0x09 => .ok (.addiu f.rs f.rt f.imm)
  | 0x0A => .ok (.slti f.rs f.rt f.imm)
  | 0x0B => .ok (.sltiu f.rs f.rt f.imm)
  | 0x0C => .ok (.andi f.rs f.rt f.imm)
  | 0x0D => .ok (.ori f.rs f.rt f.imm)
  | 0x0E => .ok (.xori f.rs f.rt f.imm)
  | 0x0F => .ok (.lui f.rs f.rt f.imm)
  | 0x10 => .ok (.cp0 f.target)
  | 0x20 => .ok (.lb f.rs f.rt f.imm)
  | 0x21 => .ok (.lh f.rs f.rt f.imm)
  | 0x22 => .ok (.lwl f.rs f.rt f.imm)
  | 0x23 => .ok (.lw f.rs f.rt f.imm)
  | 0x24 => .ok (.lbu f.rs f.rt f.imm)
  | 0x25 => .ok (.lhu f.rs f.rt f.imm)
  | 0x26 => .ok (.lwr f.rs f.rt f.imm)
  | 0x28 => .ok (.sb f.rs f.rt f.imm)
  | 0x29 => .ok (.sh f.rs f.rt f.imm)
  | 0x2A => .ok (.swl f.rs f.rt f.imm)
  | 0x2B => .ok (.sw f.rs f.rt f.imm)
  | 0x2E => .ok (.swr f.rs f.rt f.imm)
  | _ => .error .primaryOpcode

/-! ### The pseudo patterns -/

/-- NOP: the whole word is zero, which for an SLL word means every field is zero (R130, R131). -/
def nopPattern (rs rt rd shamt : RegIx) : Bool :=
  rs == 0 && rt == 0 && rd == 0 && shamt == 0

/-- MOVE: ADD with `rt = 0` (R130). -/
def movePattern (rt : RegIx) : Bool := rt == 0

/-- One-operand JALR: JALR with `rd = 31` (R130). -/
def jalrPattern (rd : RegIx) : Bool := rd == 31

/-- BAL: BGEZAL with `rs = 0` (R130). -/
def balPattern (rs : RegIx) : Bool := rs == 0

/-- B: BEQ with `rs = 0` and `rt = 0` (R130). -/
def bPattern (rs rt : RegIx) : Bool := rs == 0 && rt == 0

/-- The combinator's choice (R130): a base instruction that one of the five patterns picks out becomes its pseudo row;
every other instruction stays (R131). -/
def substitute (i : Instr) : Instr :=
  match i with
  | .sll rs rt rd shamt => if nopPattern rs rt rd shamt then .nop else i
  | .add rs rt rd shamt => if movePattern rt then .move rs rd shamt else i
  | .jalr rs rt rd shamt => if jalrPattern rd then .jalrOneOperand rs rt shamt else i
  | .bgezal rs imm => if balPattern rs then .bal imm else i
  | .beq rs rt imm => if bPattern rs rt then .b imm else i
  | _ => i

/-- The decoder: extract, dispatch, and, with `pseudo_instructions = 1`, the combinator (R140). With
`pseudo_instructions = 0` the combinator is bypassed (R133). -/
def decode (pseudo : Bool) (w : Word) : Except Cause Instr :=
  match dispatch (extract w) with
  | .ok i => .ok (if pseudo then substitute i else i)
  | .error c => .error c

/-! ### The encoder -/

/-- An R-type word (R60). -/
def rWord (rs rt rd shamt : RegIx) (funct : BitVec 6) : Word :=
  0#6 ++ rs ++ rt ++ rd ++ shamt ++ funct

/-- An I-type word (R60); for REGIMM `rt` is the selector (R72). -/
def iWord (opcode : BitVec 6) (rs rt : RegIx) (imm : Imm16) : Word :=
  opcode ++ rs ++ rt ++ imm

/-- A J-type word (R60), and the CP0 word (R76). -/
def jWord (opcode : BitVec 6) (target : Target26) : Word :=
  opcode ++ target

/-- The word of an instruction (R60, R70 to R72, R130), its don't-care fields as they stand. -/
def encode (i : Instr) : Word :=
  match i with
  | .sll rs rt rd shamt => rWord rs rt rd shamt 0x00
  | .srl rs rt rd shamt => rWord rs rt rd shamt 0x02
  | .sra rs rt rd shamt => rWord rs rt rd shamt 0x03
  | .sllv rs rt rd shamt => rWord rs rt rd shamt 0x04
  | .srlv rs rt rd shamt => rWord rs rt rd shamt 0x06
  | .srav rs rt rd shamt => rWord rs rt rd shamt 0x07
  | .jr rs rt rd shamt => rWord rs rt rd shamt 0x08
  | .jalr rs rt rd shamt => rWord rs rt rd shamt 0x09
  | .syscall code => 0#6 ++ code ++ 0x0C#6
  | .add rs rt rd shamt => rWord rs rt rd shamt 0x20
  | .addu rs rt rd shamt => rWord rs rt rd shamt 0x21
  | .sub rs rt rd shamt => rWord rs rt rd shamt 0x22
  | .subu rs rt rd shamt => rWord rs rt rd shamt 0x23
  | .and rs rt rd shamt => rWord rs rt rd shamt 0x24
  | .or rs rt rd shamt => rWord rs rt rd shamt 0x25
  | .xor rs rt rd shamt => rWord rs rt rd shamt 0x26
  | .nor rs rt rd shamt => rWord rs rt rd shamt 0x27
  | .slt rs rt rd shamt => rWord rs rt rd shamt 0x2A
  | .sltu rs rt rd shamt => rWord rs rt rd shamt 0x2B
  | .bltz rs imm => iWord 0x01 rs 0x00 imm
  | .bgez rs imm => iWord 0x01 rs 0x01 imm
  | .bltzal rs imm => iWord 0x01 rs 0x10 imm
  | .bgezal rs imm => iWord 0x01 rs 0x11 imm
  | .j target => jWord 0x02 target
  | .jal target => jWord 0x03 target
  | .beq rs rt imm => iWord 0x04 rs rt imm
  | .bne rs rt imm => iWord 0x05 rs rt imm
  | .blez rs rt imm => iWord 0x06 rs rt imm
  | .bgtz rs rt imm => iWord 0x07 rs rt imm
  | .addi rs rt imm => iWord 0x08 rs rt imm
  | .addiu rs rt imm => iWord 0x09 rs rt imm
  | .slti rs rt imm => iWord 0x0A rs rt imm
  | .sltiu rs rt imm => iWord 0x0B rs rt imm
  | .andi rs rt imm => iWord 0x0C rs rt imm
  | .ori rs rt imm => iWord 0x0D rs rt imm
  | .xori rs rt imm => iWord 0x0E rs rt imm
  | .lui rs rt imm => iWord 0x0F rs rt imm
  | .cp0 code => jWord 0x10 code
  | .lb rs rt imm => iWord 0x20 rs rt imm
  | .lh rs rt imm => iWord 0x21 rs rt imm
  | .lwl rs rt imm => iWord 0x22 rs rt imm
  | .lw rs rt imm => iWord 0x23 rs rt imm
  | .lbu rs rt imm => iWord 0x24 rs rt imm
  | .lhu rs rt imm => iWord 0x25 rs rt imm
  | .lwr rs rt imm => iWord 0x26 rs rt imm
  | .sb rs rt imm => iWord 0x28 rs rt imm
  | .sh rs rt imm => iWord 0x29 rs rt imm
  | .swl rs rt imm => iWord 0x2A rs rt imm
  | .sw rs rt imm => iWord 0x2B rs rt imm
  | .swr rs rt imm => iWord 0x2E rs rt imm
  | .nop => 0
  | .move rs rd shamt => rWord rs 0 rd shamt 0x20
  | .jalrOneOperand rs rt shamt => rWord rs rt 31 shamt 0x09
  | .bal imm => iWord 0x01 0 0x11 imm
  | .b imm => iWord 0x04 0 0 imm

/-! ### The host's view of the decoder -/

/-- The instruction whose table bits are `w` (`nbits` of them; every instruction is 32 bits, R60). The word is a logical
value with no byte order (R48). The options are those after reset, so `pseudo_instructions = 1` (R290) and a pseudo row
takes precedence over its base row. -/
def decodeTableWord (nbits w : Nat) : Option Instr :=
  match decode true (BitVec.ofNat 32 (w % 2 ^ nbits)) with
  | .ok i => some i
  | .error _ => none

end Sys2Proof
end

