-- ==== Sys2Proof/Machine/AluRegister.lean ====
section
/-! DEFINITION. Register-register ALU instructions and the MOVE pseudo form (spec 43_alu_register.md R170 to R180). -/

namespace Sys2Proof.Machine

/-- An ADD word (R170): with `pseudo_instructions = 1` and `rt = 0` it renders as MOVE (R180). -/
def renderAdd (rs rt rd : RegIx) (s : State) : Answer :=
  if s.pseudoInstructions && movePattern rt then emitPlain .MOVE [.reg rd, .reg rs] s
  else emitAlu .ADD rs rt rd s

/-- ADD (R170). -/
def execAdd (rs rt rd : RegIx) (s : State) : Answer := renderAdd rs rt rd s

/-- ADDU (R171): never MOVE. -/
def execAddu (rs rt rd : RegIx) (s : State) : Answer := emitAlu .ADDU rs rt rd s

/-- SUB (R172). -/
def execSub (rs rt rd : RegIx) (s : State) : Answer := emitAlu .SUB rs rt rd s

/-- SUBU (R173). -/
def execSubu (rs rt rd : RegIx) (s : State) : Answer := emitAlu .SUBU rs rt rd s

/-- AND (R174). -/
def execAnd (rs rt rd : RegIx) (s : State) : Answer := emitAlu .AND rs rt rd s

/-- OR (R175): never MOVE. -/
def execOr (rs rt rd : RegIx) (s : State) : Answer := emitAlu .OR rs rt rd s

/-- XOR (R176). -/
def execXor (rs rt rd : RegIx) (s : State) : Answer := emitAlu .XOR rs rt rd s

/-- NOR (R177). -/
def execNor (rs rt rd : RegIx) (s : State) : Answer := emitAlu .NOR rs rt rd s

/-- SLT (R178). -/
def execSlt (rs rt rd : RegIx) (s : State) : Answer := emitAlu .SLT rs rt rd s

/-- SLTU (R179). -/
def execSltu (rs rt rd : RegIx) (s : State) : Answer := emitAlu .SLTU rs rt rd s

/-- MOVE (R180): the ADD words with `rt = 0`, which with `pseudo_instructions = 0` render as ADD (R170). -/
def execMove (rs rd : RegIx) (s : State) : Answer := renderAdd rs 0 rd s

end Sys2Proof.Machine
end

