-- ==== Sys2Proof/Machine/Branch.lean ====
section
/-! DEFINITION. Equality and comparison branches and the B pseudo form (spec 46_branch.md R210 to R214). -/

namespace Sys2Proof.Machine

/-- A BEQ word (R210): with `pseudo_instructions = 1` and `rs = rt = 0` it renders as B (R214). -/
def renderBeq (rs rt : RegIx) (imm : Imm16) (s : State) : Answer :=
  if s.pseudoInstructions && bPattern rs rt then emitBranch .B [] imm s
  else emitBranch .BEQ [.reg rs, .reg rt] imm s

/-- BEQ (R210). -/
def execBeq (rs rt : RegIx) (imm : Imm16) (s : State) : Answer := renderBeq rs rt imm s

/-- BNE (R211). -/
def execBne (rs rt : RegIx) (imm : Imm16) (s : State) : Answer := emitBranch .BNE [.reg rs, .reg rt] imm s

/-- BLEZ (R212). -/
def execBlez (rs : RegIx) (imm : Imm16) (s : State) : Answer := emitBranch .BLEZ [.reg rs] imm s

/-- BGTZ (R213). -/
def execBgtz (rs : RegIx) (imm : Imm16) (s : State) : Answer := emitBranch .BGTZ [.reg rs] imm s

/-- B (R214): the BEQ words with `rs = rt = 0`, which with `pseudo_instructions = 0` render as BEQ (R210). -/
def execB (imm : Imm16) (s : State) : Answer := renderBeq 0 0 imm s

end Sys2Proof.Machine
end

