-- ==== Sys2Proof/Machine/Cop0.lean ====
section
/-! DEFINITION. The coprocessor-0 placeholder (spec 48_cop0.md R235). -/

namespace Sys2Proof.Machine

/-- CP0 (R235): the bare marker, whatever bits 25..0 are, with no privilege check (60_exceptions.md R276). -/
def execCp0 (s : State) : Answer := emitPlain .CP0 [] s

end Sys2Proof.Machine
end

