-- ==== Sys2Proof/Machine/Jump.lean ====
section
/-! DEFINITION. Direct jumps (spec 45_jump.md R200, R201). -/

namespace Sys2Proof.Machine

/-- J (R200). -/
def execJ (target : Target26) (s : State) : Answer := emitJump .J target s

/-- JAL (R201). -/
def execJal (target : Target26) (s : State) : Answer := emitJump .JAL target s

end Sys2Proof.Machine
end

