-- ==== Sys2Proof/Machine/JumpRegister.lean ====
section
/-! DEFINITION. Jump-register and system instructions and the one-operand JALR (spec 42_jump_register_system.md R160 to
R163). None of them queries `Lookup` (40_datapath.md R113). -/

namespace Sys2Proof.Machine

/-- JR (R160). -/
def execJr (rs : RegIx) (s : State) : Answer := emitPlain .JR [.reg rs] s

/-- A JALR word (R161): with `pseudo_instructions = 1` and `rd = 31` it renders in the one-operand form (R163). -/
def renderJalr (rs rd : RegIx) (s : State) : Answer :=
  if s.pseudoInstructions && jalrPattern rd then emitPlain .JALR [.reg rs] s
  else emitPlain .JALR [.reg rd, .reg rs] s

/-- JALR (R161). -/
def execJalr (rs rd : RegIx) (s : State) : Answer := renderJalr rs rd s

/-- JALR in its one-operand form (R163): the JALR words with `rd = 31`. -/
def execJalrOneOperand (rs : RegIx) (s : State) : Answer := renderJalr rs 31 s

/-- SYSCALL (R162): rendered, not performed (60_exceptions.md R273). -/
def execSyscall (s : State) : Answer := emitPlain .SYSCALL [] s

end Sys2Proof.Machine
end

