-- ==== Sys2Proof/Machine/LoadStore.lean ====
section
/-! DEFINITION. Loads and stores (spec 49_load_store.md R240 to R252). The block renders them in base-plus-offset form and
accesses no memory (R252). -/

namespace Sys2Proof.Machine

/-- LB (R240). -/
def execLb (rs rt : RegIx) (imm : Imm16) (s : State) : Answer := emitMem .LB rs rt imm s

/-- LH (R242). -/
def execLh (rs rt : RegIx) (imm : Imm16) (s : State) : Answer := emitMem .LH rs rt imm s

/-- LWL (R245). -/
def execLwl (rs rt : RegIx) (imm : Imm16) (s : State) : Answer := emitMem .LWL rs rt imm s

/-- LW (R244). -/
def execLw (rs rt : RegIx) (imm : Imm16) (s : State) : Answer := emitMem .LW rs rt imm s

/-- LBU (R241). -/
def execLbu (rs rt : RegIx) (imm : Imm16) (s : State) : Answer := emitMem .LBU rs rt imm s

/-- LHU (R243). -/
def execLhu (rs rt : RegIx) (imm : Imm16) (s : State) : Answer := emitMem .LHU rs rt imm s

/-- LWR (R246). -/
def execLwr (rs rt : RegIx) (imm : Imm16) (s : State) : Answer := emitMem .LWR rs rt imm s

/-- SB (R247). -/
def execSb (rs rt : RegIx) (imm : Imm16) (s : State) : Answer := emitMem .SB rs rt imm s

/-- SH (R248). -/
def execSh (rs rt : RegIx) (imm : Imm16) (s : State) : Answer := emitMem .SH rs rt imm s

/-- SWL (R250). -/
def execSwl (rs rt : RegIx) (imm : Imm16) (s : State) : Answer := emitMem .SWL rs rt imm s

/-- SW (R249). -/
def execSw (rs rt : RegIx) (imm : Imm16) (s : State) : Answer := emitMem .SW rs rt imm s

/-- SWR (R251). -/
def execSwr (rs rt : RegIx) (imm : Imm16) (s : State) : Answer := emitMem .SWR rs rt imm s

end Sys2Proof.Machine
end

