-- ==== Sys2Proof/Machine/Regimm.lean ====
section
/-! DEFINITION. REGIMM branches and the BAL pseudo form (spec 44_regimm.md R190 to R194). -/

namespace Sys2Proof.Machine

/-- BLTZ (R190). -/
def execBltz (rs : RegIx) (imm : Imm16) (s : State) : Answer := emitBranch .BLTZ [.reg rs] imm s

/-- BGEZ (R191). -/
def execBgez (rs : RegIx) (imm : Imm16) (s : State) : Answer := emitBranch .BGEZ [.reg rs] imm s

/-- BLTZAL (R192): never BAL. -/
def execBltzal (rs : RegIx) (imm : Imm16) (s : State) : Answer := emitBranch .BLTZAL [.reg rs] imm s

/-- A BGEZAL word (R193): with `pseudo_instructions = 1` and `rs = 0` it renders as BAL (R194). -/
def renderBgezal (rs : RegIx) (imm : Imm16) (s : State) : Answer :=
  if s.pseudoInstructions && balPattern rs then emitBranch .BAL [] imm s
  else emitBranch .BGEZAL [.reg rs] imm s

/-- BGEZAL (R193). -/
def execBgezal (rs : RegIx) (imm : Imm16) (s : State) : Answer := renderBgezal rs imm s

/-- BAL (R194): the BGEZAL words with `rs = 0`, which with `pseudo_instructions = 0` render as BGEZAL (R193). -/
def execBal (imm : Imm16) (s : State) : Answer := renderBgezal 0 imm s

end Sys2Proof.Machine
end

