-- ==== Sys2Proof/Machine/Shift.lean ====
section
/-! DEFINITION. Shift and shift-variable instructions and the NOP pseudo form (spec 41_shift.md R150 to R156). -/

namespace Sys2Proof.Machine

/-- An SLL word (R150): with `pseudo_instructions = 1` the all-zero word is NOP (R156). -/
def renderSll (rs rt rd shamt : RegIx) (s : State) : Answer :=
  if s.pseudoInstructions && nopPattern rs rt rd shamt then emitPlain .NOP [] s
  else emitShift .SLL rt rd shamt s

/-- SLL (R150). -/
def execSll (rs rt rd shamt : RegIx) (s : State) : Answer := renderSll rs rt rd shamt s

/-- SRL (R151). -/
def execSrl (rt rd shamt : RegIx) (s : State) : Answer := emitShift .SRL rt rd shamt s

/-- SRA (R152). -/
def execSra (rt rd shamt : RegIx) (s : State) : Answer := emitShift .SRA rt rd shamt s

/-- SLLV (R153). -/
def execSllv (rs rt rd : RegIx) (s : State) : Answer := emitShiftVariable .SLLV rs rt rd s

/-- SRLV (R154). -/
def execSrlv (rs rt rd : RegIx) (s : State) : Answer := emitShiftVariable .SRLV rs rt rd s

/-- SRAV (R155). -/
def execSrav (rs rt rd : RegIx) (s : State) : Answer := emitShiftVariable .SRAV rs rt rd s

/-- NOP (R156): the all-zero word, which with `pseudo_instructions = 0` renders as SLL (R150). -/
def execNop (s : State) : Answer := renderSll 0 0 0 0 s

end Sys2Proof.Machine
end

