-- ==== Sys2Proof/Machine/Dispatch.lean ====
section
/-! DEFINITION. One arm per instruction: each calls its own meaning. Fields that are don't-care (30_encoding.md R74) are
not passed on. -/

namespace Sys2Proof.Machine

def exec (i : Instr) (s : State) : Host.Outcome State Fault Refusal :=
  match i with
  | .sll rs rt rd shamt => Sys2Proof.Machine.execSll rs rt rd shamt s
  | .srl _ rt rd shamt => Sys2Proof.Machine.execSrl rt rd shamt s
  | .sra _ rt rd shamt => Sys2Proof.Machine.execSra rt rd shamt s
  | .sllv rs rt rd _ => Sys2Proof.Machine.execSllv rs rt rd s
  | .srlv rs rt rd _ => Sys2Proof.Machine.execSrlv rs rt rd s
  | .srav rs rt rd _ => Sys2Proof.Machine.execSrav rs rt rd s
  | .jr rs _ _ _ => Sys2Proof.Machine.execJr rs s
  | .jalr rs _ rd _ => Sys2Proof.Machine.execJalr rs rd s
  | .syscall _ => Sys2Proof.Machine.execSyscall s
  | .add rs rt rd _ => Sys2Proof.Machine.execAdd rs rt rd s
  | .addu rs rt rd _ => Sys2Proof.Machine.execAddu rs rt rd s
  | .sub rs rt rd _ => Sys2Proof.Machine.execSub rs rt rd s
  | .subu rs rt rd _ => Sys2Proof.Machine.execSubu rs rt rd s
  | .and rs rt rd _ => Sys2Proof.Machine.execAnd rs rt rd s
  | .or rs rt rd _ => Sys2Proof.Machine.execOr rs rt rd s
  | .xor rs rt rd _ => Sys2Proof.Machine.execXor rs rt rd s
  | .nor rs rt rd _ => Sys2Proof.Machine.execNor rs rt rd s
  | .slt rs rt rd _ => Sys2Proof.Machine.execSlt rs rt rd s
  | .sltu rs rt rd _ => Sys2Proof.Machine.execSltu rs rt rd s
  | .bltz rs imm => Sys2Proof.Machine.execBltz rs imm s
  | .bgez rs imm => Sys2Proof.Machine.execBgez rs imm s
  | .bltzal rs imm => Sys2Proof.Machine.execBltzal rs imm s
  | .bgezal rs imm => Sys2Proof.Machine.execBgezal rs imm s
  | .j target => Sys2Proof.Machine.execJ target s
  | .jal target => Sys2Proof.Machine.execJal target s
  | .beq rs rt imm => Sys2Proof.Machine.execBeq rs rt imm s
  | .bne rs rt imm => Sys2Proof.Machine.execBne rs rt imm s
  | .blez rs _ imm => Sys2Proof.Machine.execBlez rs imm s
  | .bgtz rs _ imm => Sys2Proof.Machine.execBgtz rs imm s
  | .addi rs rt imm => Sys2Proof.Machine.execAddi rs rt imm s
  | .addiu rs rt imm => Sys2Proof.Machine.execAddiu rs rt imm s
  | .slti rs rt imm => Sys2Proof.Machine.execSlti rs rt imm s
  | .sltiu rs rt imm => Sys2Proof.Machine.execSltiu rs rt imm s
  | .andi rs rt imm => Sys2Proof.Machine.execAndi rs rt imm s
  | .ori rs rt imm => Sys2Proof.Machine.execOri rs rt imm s
  | .xori rs rt imm => Sys2Proof.Machine.execXori rs rt imm s
  | .lui _ rt imm => Sys2Proof.Machine.execLui rt imm s
  | .cp0 _ => Sys2Proof.Machine.execCp0 s
  | .lb rs rt imm => Sys2Proof.Machine.execLb rs rt imm s
  | .lh rs rt imm => Sys2Proof.Machine.execLh rs rt imm s
  | .lwl rs rt imm => Sys2Proof.Machine.execLwl rs rt imm s
  | .lw rs rt imm => Sys2Proof.Machine.execLw rs rt imm s
  | .lbu rs rt imm => Sys2Proof.Machine.execLbu rs rt imm s
  | .lhu rs rt imm => Sys2Proof.Machine.execLhu rs rt imm s
  | .lwr rs rt imm => Sys2Proof.Machine.execLwr rs rt imm s
  | .sb rs rt imm => Sys2Proof.Machine.execSb rs rt imm s
  | .sh rs rt imm => Sys2Proof.Machine.execSh rs rt imm s
  | .swl rs rt imm => Sys2Proof.Machine.execSwl rs rt imm s
  | .sw rs rt imm => Sys2Proof.Machine.execSw rs rt imm s
  | .swr rs rt imm => Sys2Proof.Machine.execSwr rs rt imm s
  | .nop => Sys2Proof.Machine.execNop s
  | .move rs rd _ => Sys2Proof.Machine.execMove rs rd s
  | .jalrOneOperand rs _ _ => Sys2Proof.Machine.execJalrOneOperand rs s
  | .bal imm => Sys2Proof.Machine.execBal imm s
  | .b imm => Sys2Proof.Machine.execB imm s

end Sys2Proof.Machine
end

