-- ==== Sys2Proof/Machine/Step.lean ====
section
/-! DEFINITION. One step of the machine is one decode transaction (00_scope.md R3, 40_datapath.md R140). The block fetches
nothing and has no program counter (20_memory.md R52, 10_state.md R32): it decodes the value on `word`, and the inputs
stay as the host holds them. -/

namespace Sys2Proof.Machine

/-- One transaction (R140): decode `word` under `pseudo_instructions`; an unsupported word gives the sentinel (R102), any
other is rendered by its meaning; then a table change under way is complete (R50). -/
def step (s : State) : Host.Outcome State Fault Refusal :=
  match decode s.pseudoInstructions s.word with
  | .error _ => .next s.emitUnsupported.settle
  | .ok i =>
    match exec i s with
    | .next t => .next t.settle
    | .fault r => .fault r
    | .refused r => .refused r

/-- `s` with the instruction whose table bits are `w` on the `word` input (log entry 3): all that the next transaction
needs, since `word` is where the block takes its instruction from (R21). -/
def State.withFetchWord (s : State) (nbits w : Nat) : State :=
  { s with word := BitVec.ofNat 32 (w % 2 ^ nbits) }

end Sys2Proof.Machine
end

