-- ==== Sys2Proof/Machine/OpcodeTable.lean ====
section
/-! DEFINITION. spec/opcode_table.json as data, row by row, with the operand templates of 40_datapath.md R101 and R130.
Decoding and the meanings do not read it: it is a second, table-driven account of the same block, which statements hold
the machine against. -/

namespace Sys2Proof.Machine

/-- What a template names at an operand's place (R77, R101). -/
inductive OperandKind where
  | rd | rs | rt | shamt | simm | mem | branch | jump
  deriving DecidableEq, Repr

/-- A row of the table: `word` is that instruction when `word & mask = pattern`. -/
structure TableRow where
  mn : Mnemonic
  pattern : Word
  mask : Word
  template : List OperandKind
  deriving DecidableEq, Repr

/-- The row's test (30_encoding.md, opening): `word & mask = match`. -/
def TableRow.matchesWord (row : TableRow) (w : Word) : Bool :=
  w &&& row.mask == row.pattern

/-- A row of the SPECIAL group, selected by opcode and funct (R71). -/
def specialRow (mn : Mnemonic) (pattern : Word) (template : List OperandKind) : TableRow :=
  ⟨mn, pattern, 0xFC00003F, template⟩

/-- A row of the REGIMM group, selected by opcode and rt (R72). -/
def regimmRow (mn : Mnemonic) (pattern : Word) : TableRow :=
  ⟨mn, pattern, 0xFC1F0000, [.rs, .branch]⟩

/-- A row selected by the primary opcode alone (R70). -/
def primaryRow (mn : Mnemonic) (pattern : Word) (template : List OperandKind) : TableRow :=
  ⟨mn, pattern, 0xFC000000, template⟩

/-- The SPECIAL rows. -/
def specialRows : List TableRow :=
  [specialRow .SLL 0x00000000 [.rd, .rt, .shamt], specialRow .SRL 0x00000002 [.rd, .rt, .shamt],
   specialRow .SRA 0x00000003 [.rd, .rt, .shamt], specialRow .SLLV 0x00000004 [.rd, .rt, .rs],
   specialRow .SRLV 0x00000006 [.rd, .rt, .rs], specialRow .SRAV 0x00000007 [.rd, .rt, .rs],
   specialRow .JR 0x00000008 [.rs], specialRow .JALR 0x00000009 [.rd, .rs],
   specialRow .SYSCALL 0x0000000C [], specialRow .ADD 0x00000020 [.rd, .rs, .rt],
   specialRow .ADDU 0x00000021 [.rd, .rs, .rt], specialRow .SUB 0x00000022 [.rd, .rs, .rt],
   specialRow .SUBU 0x00000023 [.rd, .rs, .rt], specialRow .AND 0x00000024 [.rd, .rs, .rt],
   specialRow .OR 0x00000025 [.rd, .rs, .rt], specialRow .XOR 0x00000026 [.rd, .rs, .rt],
   specialRow .NOR 0x00000027 [.rd, .rs, .rt], specialRow .SLT 0x0000002A [.rd, .rs, .rt],
   specialRow .SLTU 0x0000002B [.rd, .rs, .rt]]

/-- The REGIMM rows. -/
def regimmRows : List TableRow :=
  [regimmRow .BLTZ 0x04000000, regimmRow .BGEZ 0x04010000, regimmRow .BLTZAL 0x04100000,
   regimmRow .BGEZAL 0x04110000]

/-- The jumps, branches, immediate ALU rows and CP0. -/
def primaryRows : List TableRow :=
  [primaryRow .J 0x08000000 [.jump], primaryRow .JAL 0x0C000000 [.jump],
   primaryRow .BEQ 0x10000000 [.rs, .rt, .branch], primaryRow .BNE 0x14000000 [.rs, .rt, .branch],
   primaryRow .BLEZ 0x18000000 [.rs, .branch], primaryRow .BGTZ 0x1C000000 [.rs, .branch],
   primaryRow .ADDI 0x20000000 [.rt, .rs, .simm], primaryRow .ADDIU 0x24000000 [.rt, .rs, .simm],
   primaryRow .SLTI 0x28000000 [.rt, .rs, .simm], primaryRow .SLTIU 0x2C000000 [.rt, .rs, .simm],
   primaryRow .ANDI 0x30000000 [.rt, .rs, .simm], primaryRow .ORI 0x34000000 [.rt, .rs, .simm],
   primaryRow .XORI 0x38000000 [.rt, .rs, .simm], primaryRow .LUI 0x3C000000 [.rt, .simm],
   primaryRow .CP0 0x40000000 []]

/-- The load and store rows. -/
def memoryRows : List TableRow :=
  [primaryRow .LB 0x80000000 [.rt, .mem], primaryRow .LH 0x84000000 [.rt, .mem],
   primaryRow .LWL 0x88000000 [.rt, .mem], primaryRow .LW 0x8C000000 [.rt, .mem],
   primaryRow .LBU 0x90000000 [.rt, .mem], primaryRow .LHU 0x94000000 [.rt, .mem],
   primaryRow .LWR 0x98000000 [.rt, .mem], primaryRow .SB 0xA0000000 [.rt, .mem],
   primaryRow .SH 0xA4000000 [.rt, .mem], primaryRow .SWL 0xA8000000 [.rt, .mem],
   primaryRow .SW 0xAC000000 [.rt, .mem], primaryRow .SWR 0xB8000000 [.rt, .mem]]

/-- The base rows. -/
def baseRows : List TableRow :=
  specialRows ++ regimmRows ++ primaryRows ++ memoryRows

/-- The pseudo rows (R130). -/
def pseudoRows : List TableRow :=
  [⟨.NOP, 0x00000000, 0xFFFFFFFF, []⟩, ⟨.MOVE, 0x00000020, 0xFC1F003F, [.rd, .rs]⟩,
   ⟨.JALR, 0x0000F809, 0xFC00F83F, [.rs]⟩, ⟨.BAL, 0x04110000, 0xFFFF0000, [.branch]⟩,
   ⟨.B, 0x10000000, 0xFFFF0000, [.branch]⟩]

/-- The rows that apply: pseudo rows only with the option on, and before their base rows. -/
def rowsFor (pseudo : Bool) : List TableRow :=
  if pseudo then pseudoRows ++ baseRows else baseRows

/-- `build(k, f, address, Lookup)` (R140), the fields cut from the word by shift and mask (R69). -/
def buildOperand (w address : Word) (lookup : Word → Option Label) (k : OperandKind) : Operand :=
  let rs : RegIx := ((w >>> 21) &&& 0x1F).truncate 5
  let rt : RegIx := ((w >>> 16) &&& 0x1F).truncate 5
  let rd : RegIx := ((w >>> 11) &&& 0x1F).truncate 5
  let shamt : RegIx := ((w >>> 6) &&& 0x1F).truncate 5
  let imm : Imm16 := (w &&& 0xFFFF).truncate 16
  let target : Target26 := (w &&& 0x3FFFFFF).truncate 26
  match k with
  | .rd => .reg rd
  | .rs => .reg rs
  | .rt => .reg rt
  | .shamt => .shamt shamt
  | .simm => .imm (simm imm)
  | .mem => .mem (simm imm) rs
  | .branch => .brTgt (simm imm) (branchTarget address imm) (lookup (branchTarget address imm))
  | .jump => .jTgt target (jumpTarget address target) (lookup (jumpTarget address target))

/-- The record the table gives a word: the first row that matches, its template built; no row is unsupported (R73). -/
def tableRecord (pseudo : Bool) (w address : Word) (lookup : Word → Option Label) : Record :=
  match (rowsFor pseudo).find? (fun row => row.matchesWord w) with
  | none => .unsupported
  | some row => .insn row.mn (row.template.map (buildOperand w address lookup))

/-- An operand of the kind a template names, with its number in range (R100). -/
def Operand.fits (o : Operand) (k : OperandKind) : Bool :=
  match k, o with
  | .rd, .reg _ | .rs, .reg _ | .rt, .reg _ => true
  | .shamt, .shamt _ => true
  | .simm, .imm v => decide (-32768 ≤ v ∧ v ≤ 32767)
  | .mem, .mem off _ => decide (-32768 ≤ off ∧ off ≤ 32767)
  | .branch, .brTgt off _ _ => decide (-32768 ≤ off ∧ off ≤ 32767)
  | .jump, .jTgt _ _ _ => true
  | _, _ => false

/-- The operands fit a template, one by one. -/
def fitsTemplate (ops : List Operand) (ks : List OperandKind) : Bool :=
  match ops, ks with
  | [], [] => true
  | o :: os, k :: ks => o.fits k && fitsTemplate os ks
  | _, _ => false

/-- A record that R100, R101 and R130 allow: unsupported, or a mnemonic with the operands of one of its templates. -/
def Record.wf (r : Record) : Bool :=
  match r with
  | .unsupported => true
  | .insn mn ops => (pseudoRows ++ baseRows).any (fun row => row.mn == mn && fitsTemplate ops row.template)

/-- The `Lookup` query a record comes from: its target operand's address (R112, R113). -/
def Record.target (r : Record) : Option Word :=
  match r with
  | .unsupported => none
  | .insn _ ops => ops.findSome? (fun o =>
      match o with
      | .brTgt _ tgt _ => some tgt
      | .jTgt _ tgt _ => some tgt
      | _ => none)

end Sys2Proof.Machine
end

