-- ==== Sys2Proof/Machine/Transactions.lean ====
section
/-! DEFINITION. The host's side of a sequence of transactions (70_reset_and_hazards.md R292, R293): it places inputs, lets
the block decode, and reads the ports. The block has no notion of such a sequence (R293). -/

namespace Sys2Proof.Machine

/-- What a transaction leaves on the output ports (10_state.md R20). -/
structure Outputs where
  text : Option String
  record : Option Record
  lookupRequest : Option Word
  deriving DecidableEq, Repr

/-- The output ports of a state. -/
def State.outputs (s : State) : Outputs :=
  ⟨s.text, s.record, s.lookupRequest⟩

/-- One transaction on the inputs `x`. -/
def transact (x : Inputs) (s : State) : Host.Outcome State Fault Refusal :=
  step (s.supply x)

/-- The outputs of a sequence of transactions, in order; it ends where a transaction would stop. -/
def transcript : List Inputs → State → List Outputs
  | [], _ => []
  | x :: xs, s =>
    match transact x s with
    | .next t => t.outputs :: transcript xs t
    | .fault _ => []
    | .refused _ => []

end Sys2Proof.Machine
end

