-- ==== Sys2Proof/Safety.lean ====
section
/-! DEFINITION. What a good state and a safe run are, in the terms the statements use. -/

namespace Sys2Proof.Machine

/-- The output ports agree: nothing emitted yet (70_reset_and_hazards.md R290), or a record of one of the block's
templates (40_datapath.md R100, R101, R130), its line in one of the two register spellings (R122, R142), and the query
of its target operand (R112). -/
def Outputs.consistent (o : Outputs) : Prop :=
  (o.record = none ∧ o.text = none ∧ o.lookupRequest = none) ∨
    ∃ r names, o.record = some r ∧ r.wf = true ∧ o.text = some (lineText names r) ∧ o.lookupRequest = r.target

/-- The invariant: the symbol table, and a change of it under way, are mappings in canonical form (20_memory.md R41),
and the output ports agree. -/
structure State.Inv (s : State) : Prop where
  symbols_wf : SymTab.wf s.symbols = true
  symbolsDuring_wf : ∀ new, s.symbolsDuring = some new → SymTab.wf new = true
  outputs_consistent : s.outputs.consistent

/-- A run is safe when no number of steps faults or is refused (60_exceptions.md R270). -/
def SafeRun (s : State) : Prop :=
  ∀ k, ∃ t, Host.Core.run Sys2Proof.core k s = .next t

end Sys2Proof.Machine
end

