-- ==== Sys2Proof/WellFormed.lean ====
section
/-! DEFINITION. Which instructions the decoder can answer under each setting of `pseudo_instructions`. A field's range
is its type's, so the only checks are the pseudo stage's (40_datapath.md R130, R133): with the option on, a base
instruction that a pattern picks out does not stand for itself; with the option off, no pseudo row applies. -/

namespace Sys2Proof

/-- `i` is an instruction of the block when `pseudo_instructions = pseudo`. -/
def Instr.wellFormed (pseudo : Bool) (i : Instr) : Bool :=
  match i with
  | .sll rs rt rd shamt => !(pseudo && nopPattern rs rt rd shamt)
  | .add _ rt _ _ => !(pseudo && movePattern rt)
  | .jalr _ _ rd _ => !(pseudo && jalrPattern rd)
  | .bgezal rs _ => !(pseudo && balPattern rs)
  | .beq rs rt _ => !(pseudo && bPattern rs rt)
  | .nop | .move .. | .jalrOneOperand .. | .bal .. | .b .. => pseudo
  | .srl .. | .sra .. | .sllv .. | .srlv .. | .srav .. | .jr .. | .syscall .. => true
  | .addu .. | .sub .. | .subu .. | .and .. | .or .. | .xor .. | .nor .. | .slt .. | .sltu .. => true
  | .bltz .. | .bgez .. | .bltzal .. | .j .. | .jal .. | .bne .. | .blez .. | .bgtz .. => true
  | .addi .. | .addiu .. | .slti .. | .sltiu .. | .andi .. | .ori .. | .xori .. | .lui .. | .cp0 .. => true
  | .lb .. | .lh .. | .lwl .. | .lw .. | .lbu .. | .lhu .. | .lwr .. => true
  | .sb .. | .sh .. | .swl .. | .sw .. | .swr .. => true

end Sys2Proof
end

