-- ==== Sys2Proof/Certificates/Slice0/Obligations.lean ====
section
/-! DEFINITION. The statements for the provers. A statement about a transaction names the ports it writes and says that the
rest of the state stays; a free value (`Config.lookupSeesNewTable`) is read through `State.lookup` only, so each statement
holds for every value of it. -/

namespace Sys2Proof.Stated

open Sys2Proof.Machine

/-- `s` with the three output ports written, everything else as it was. -/
def ports (s : State) (r : Record) (txt : String) (q : Option Word) : State :=
  { s with record := some r, text := some txt, lookupRequest := q }

/-- Instruction `i` stands for the word `w`, and renders as the record `r`, the text `txt` and the query `q`: `exec`
answers exactly that, every other field unchanged; and a transaction on `w` answers it too, whichever row of the table
the pseudo stage picks, and then ends a table change under way (`State.settle`, the model's choice: log entries 2, 12). -/
def Renders (i : Instr) (w : Word) (s : State) (r : Record) (txt : String) (q : Option Word) : Prop :=
  exec i s = .next (ports s r txt q) ∧ encode i = w ∧ (s.word = w → step s = .next (ports s r txt q).settle)

/-- A transaction on the word `w` gives the record `r`, the text `txt` and the query `q` on the output ports. It says
nothing about a constructor or about what becomes of a table change. -/
def WordRenders (w : Word) (s : State) (r : Record) (txt : String) (q : Option Word) : Prop :=
  s.word = w → ∃ t, step s = .next t ∧ t.outputs = ⟨some txt, some r, q⟩

/-- A register-register ALU instruction: operands `rd, rs, rt`, no query. -/
def RendersAlu (i : Instr) (w : Word) (mn : Mnemonic) (name : String) (rs rt rd : RegIx) (s : State) : Prop :=
  Renders i w s (.insn mn [.reg rd, .reg rs, .reg rt])
    (name ++ " " ++ regText s.useRegNames rd ++ ", " ++ regText s.useRegNames rs ++ ", " ++ regText s.useRegNames rt) none

/-- An immediate ALU instruction: operands `rt, rs, simm`, no query. -/
def RendersAluImm (i : Instr) (w : Word) (mn : Mnemonic) (name : String) (rs rt : RegIx) (imm : Imm16) (s : State) : Prop :=
  Renders i w s (.insn mn [.reg rt, .reg rs, .imm (simm imm)])
    (name ++ " " ++ regText s.useRegNames rt ++ ", " ++ regText s.useRegNames rs ++ ", " ++ decS (simm imm)) none

/-- A load or store: operands `rt, simm(rs)`, no query. -/
def RendersMem (i : Instr) (w : Word) (mn : Mnemonic) (name : String) (rs rt : RegIx) (imm : Imm16) (s : State) : Prop :=
  Renders i w s (.insn mn [.reg rt, .mem (simm imm) rs])
    (name ++ " " ++ regText s.useRegNames rt ++ ", " ++ decS (simm imm) ++ "(" ++ regText s.useRegNames rs ++ ")") none

/-- The branch operand of R110 and R112. -/
def branchOp (s : State) (imm : Imm16) : Operand :=
  .brTgt (simm imm) (branchTarget s.address imm) (s.lookup (branchTarget s.address imm))

/-- The spelling of a branch operand (R112). -/
def branchText (s : State) (imm : Imm16) : String :=
  decS (simm imm) ++ suffix (s.lookup (branchTarget s.address imm))

/-- A one-register branch: operands `rs, offset`; it queries `Lookup` at its target. -/
def RendersBranch (i : Instr) (w : Word) (mn : Mnemonic) (name : String) (rs : RegIx) (imm : Imm16) (s : State) : Prop :=
  Renders i w s (.insn mn [.reg rs, branchOp s imm])
    (name ++ " " ++ regText s.useRegNames rs ++ ", " ++ branchText s imm) (some (branchTarget s.address imm))

/-- A direct jump: one operand; it queries `Lookup` at its target. -/
def RendersJump (i : Instr) (w : Word) (mn : Mnemonic) (name : String) (target : Target26) (s : State) : Prop :=
  Renders i w s
    (.insn mn [.jTgt target (jumpTarget s.address target) (s.lookup (jumpTarget s.address target))])
    (name ++ " " ++ decU target.toNat ++ suffix (s.lookup (jumpTarget s.address target)))
    (some (jumpTarget s.address target))

/-- The opcode of a word, as a number. -/
def opcodeOf (w : Word) : Nat := w.toNat / 2 ^ 26

/-- The funct of a word, as a number. -/
def functOf (w : Word) : Nat := w.toNat % 64

/-- The rt field of a word, as a number. -/
def rtOf (w : Word) : Nat := w.toNat / 2 ^ 16 % 32

/-- Cause U1 (R271): a dash of the primary map (R70). -/
def dashOpcode (w : Word) : Prop :=
  (0x11 ≤ opcodeOf w ∧ opcodeOf w ≤ 0x1F) ∨ opcodeOf w = 0x27 ∨ opcodeOf w = 0x2C ∨ opcodeOf w = 0x2D ∨ 0x2F ≤ opcodeOf w

/-- Cause U2 (R271): opcode 0x00 and a dash of the SPECIAL map (R71). -/
def dashFunct (w : Word) : Prop :=
  opcodeOf w = 0 ∧ (functOf w = 0x01 ∨ functOf w = 0x05 ∨ functOf w = 0x0A ∨ functOf w = 0x0B ∨
    (0x0D ≤ functOf w ∧ functOf w ≤ 0x1F) ∨ functOf w = 0x28 ∨ functOf w = 0x29 ∨ 0x2C ≤ functOf w)

/-- Cause U3 (R271): opcode 0x01 and a dash of the REGIMM map (R72). -/
def dashSelector (w : Word) : Prop :=
  opcodeOf w = 1 ∧ ((0x02 ≤ rtOf w ∧ rtOf w ≤ 0x0F) ∨ 0x12 ≤ rtOf w)

/-- The words of the eight branches (R113), B and BAL among them. -/
def isBranch (w : Word) : Prop :=
  (4 ≤ opcodeOf w ∧ opcodeOf w ≤ 7) ∨ (opcodeOf w = 1 ∧ (rtOf w = 0 ∨ rtOf w = 1 ∨ rtOf w = 0x10 ∨ rtOf w = 0x11))

/-- The words of J and JAL (R113). -/
def isJump (w : Word) : Prop := opcodeOf w = 2 ∨ opcodeOf w = 3

/-- The don't-care bits of a word, by the table of R74. -/
def dontCare (w : Word) : Word :=
  match opcodeOf w with
  | 0 =>
    match functOf w with
    | 0x00 | 0x02 | 0x03 => 0x03E00000
    | 0x04 | 0x06 | 0x07 => 0x000007C0
    | 0x08 => 0x001FFFC0
    | 0x09 => 0x001F07C0
    | 0x0C => 0x03FFFFC0
    | 0x20 | 0x21 | 0x22 | 0x23 | 0x24 | 0x25 | 0x26 | 0x27 | 0x2A | 0x2B => 0x000007C0
    | _ => 0
  | 6 | 7 => 0x001F0000
  | 0x0F => 0x03E00000
  | 0x10 => 0x03FFFFFF
  | _ => 0

/-- The value of a string of ASCII digits. -/
def digitsValue (cs : List Char) : Nat := cs.foldl (fun n c => 10 * n + (c.toNat - 48)) 0

/-- Every character is one of the ASCII digits. -/
def allDigits (cs : List Char) : Prop := ∀ c ∈ cs, 48 ≤ c.toNat ∧ c.toNat ≤ 57

end Sys2Proof.Stated

open Sys2Proof Sys2Proof.Machine Sys2Proof.Stated

/-! ### Reset, steps, invariants -/

/-- R290: after power-on or reset both options are 1 and no line has been emitted. The other inputs' reset values are the
model's choice (log entry 1) and are not stated. -/
def Obligations.ResetHasDefaultOptionsAndNoOutput : Prop :=
  State.reset.useRegNames = true ∧ State.reset.pseudoInstructions = true ∧ State.reset.text = none ∧
    State.reset.record = none

/-- The invariant holds at reset. -/
def Obligations.ResetMeetsInvariant : Prop := State.reset.Inv

/-- Every step keeps the invariant, from every state that meets it: the symbol table keeps its canonical form, and the
record, the text and the query on the output ports agree (R41, R100, R101, R122). -/
def Obligations.StepKeepsInvariant : Prop :=
  ∀ s t : State, s.Inv → step s = .next t → t.Inv

/-- From every state that meets the invariant, every number of steps answers a state that meets it. -/
def Obligations.RunsNeverStopAndKeepInvariant : Prop :=
  ∀ (s : State) (k : Nat), s.Inv → ∃ t : State, Host.Core.run core k s = .next t ∧ t.Inv

/-- R270, R141: every transaction, from every state, ends by emitting a text, and no text is shorter than three characters;
the four three-character lines the spec names are emitted by some transaction. -/
def Obligations.EveryTransactionEmitsText : Prop :=
  (∀ s : State, ∃ t txt, step s = .next t ∧ t.text = some txt ∧ 3 ≤ txt.length) ∧
    ∀ txt ∈ ["NOP", "CP0", "B 0", "J 0"], ∃ s t : State, step s = .next t ∧ t.text = some txt

/-- R140: a step whose word decodes is `exec` of the decoded instruction, and nothing but a table change under way differs
after it. What `settle` leaves of such a change (the new contents in `symbols`, no change under way, the model's own
counter one higher) is the MODEL'S CHOICE, log entries 2 and 12, and no rule of the spec. -/
def Obligations.StepRunsTheDecodedInstruction : Prop :=
  ∀ (s : State) (i : Instr), decode s.pseudoInstructions s.word = .ok i →
    ∃ t : State, exec i s = .next t ∧ step s = .next t.settle ∧ (t.symbolsDuring = none → t.settle = t) ∧
      ∀ new, t.symbolsDuring = some new →
        t.settle = { t with symbols := new, symbolsDuring := none, tableChanges := t.tableChanges + 1 }

/-- Every instruction, in every state, answers a next state that differs in the output ports alone: inputs, options and
the symbol table stay (R42: the block never writes the table; R40: no memory is written). -/
def Obligations.EveryInstructionCompletesAndKeepsInputs : Prop :=
  ∀ (i : Instr) (s : State), ∃ r txt q, exec i s = .next (ports s r txt q) ∧ txt = lineText s.useRegNames r ∧
    r.wf = true ∧ q = r.target

/-! ### Unsupported words -/

/-- R102: an unsupported word ends at dispatch with the sentinel and no query; neither option nor address plays a part. -/
def Obligations.UnsupportedWordEndsInSentinel : Prop :=
  ∀ (s : State) (pseudo : Bool) (c : Cause), decode pseudo s.word = .error c →
    step s = .next (ports s .unsupported "unsupported instruction" none).settle

/-- R73: a word is unsupported exactly by the dashes of the three maps; then it gives the sentinel and nothing else. -/
def Obligations.ExactlyTheDashesAreUnsupported : Prop :=
  ∀ s : State,
    ((dashOpcode s.word ∨ dashFunct s.word ∨ dashSelector s.word) →
      step s = .next (ports s .unsupported "unsupported instruction" none).settle) ∧
    (¬(dashOpcode s.word ∨ dashFunct s.word ∨ dashSelector s.word) →
      ∃ mn ops txt q, step s = .next (ports s (.insn mn ops) txt q).settle)

/-- R271: the three causes, each exactly on its words; all three give the same output. -/
def Obligations.DecoderNamesTheCause : Prop :=
  (∀ (pseudo : Bool) (w : Word),
    (decode pseudo w = .error .primaryOpcode ↔ dashOpcode w) ∧
    (decode pseudo w = .error .specialFunct ↔ dashFunct w) ∧
    (decode pseudo w = .error .regimmSelector ↔ dashSelector w)) ∧
  ∀ (s t : State) (c : Cause), decode s.pseudoInstructions s.word = .error c → step s = .next t →
    t.outputs = ⟨some "unsupported instruction", some .unsupported, none⟩

/-- R272: the text is the sentinel exactly when the record is Unsupported; a supported line begins with an upper-case
letter, the sentinel of 23 characters with `u`; no text is empty. -/
def Obligations.SentinelIsDistinguishable : Prop :=
  ∀ s t : State, step s = .next t → ∃ txt, t.text = some txt ∧ txt ≠ "" ∧
    (txt = "unsupported instruction" ↔ t.record = some .unsupported) ∧
    (t.record ≠ some .unsupported → 3 ≤ txt.length ∧
      ∃ c cs, txt.toList = c :: cs ∧ 65 ≤ c.toNat ∧ c.toNat ≤ 90) ∧
    (t.record = some .unsupported → txt.length = 23 ∧ ∃ cs, txt.toList = 'u' :: cs)

/-! ### Encoding -/

/-- For every instruction that is well formed under the option, every field at every value, decoding its word gives it
back. -/
def Obligations.DecodeInvertsEncode : Prop :=
  ∀ (pseudo : Bool) (i : Instr), i.wellFormed pseudo = true → decode pseudo (encode i) = .ok i

/-- Every supported word is the word of the instruction it decodes to: no bit is dropped; and what is decoded is well
formed. -/
def Obligations.EncodeInvertsDecode : Prop :=
  ∀ (pseudo : Bool) (w : Word) (i : Instr), decode pseudo w = .ok i → encode i = w ∧ i.wellFormed pseudo = true

/-- Words written out from the spec's encodings and examples decode to the instructions they stand for. -/
def Obligations.ExampleWordsDecode : Prop :=
  decode true 0x00094100 = .ok (.sll 0 9 8 4) ∧ decode true 0x0320F809 = .ok (.jalrOneOperand 25 0 0) ∧
    decode false 0x0320F809 = .ok (.jalr 25 0 31 0) ∧ decode true 0x012A4020 = .ok (.add 9 10 8 0) ∧
    decode true 0x0490000F = .ok (.bltzal 4 15) ∧ decode true 0x0C100018 = .ok (.jal 0x100018) ∧
    decode true 0x11A0001A = .ok (.beq 13 0 26) ∧ decode true 0x24A50001 = .ok (.addiu 5 5 1) ∧
    decode true 0x40806000 = .ok (.cp0 0x0806000) ∧ decode true 0xAFBF001C = .ok (.sw 29 31 28)

/-- The machine agrees with the opcode table: from every state, the record is the one the first applicable row's
mask-and-match test and template give, its line is the text and its target the query. -/
def Obligations.StepFollowsOpcodeTable : Prop :=
  ∀ s : State,
    let r := tableRecord s.pseudoInstructions s.word s.address s.lookup
    step s = .next (ports s r (lineText s.useRegNames r) r.target).settle

/-- No base row of the opcode table overlaps another. -/
def Obligations.BaseRowsDoNotOverlap : Prop :=
  ∀ (w : Word), ∀ row ∈ baseRows, ∀ row' ∈ baseRows,
    row.matchesWord w = true → row'.matchesWord w = true → row = row'

/-- R61 to R69: every field of every word is the number its bits make. -/
def Obligations.FieldsAreTheirBits : Prop :=
  ∀ w : Word,
    (extract w).opcode.toNat = w.toNat / 2 ^ 26 ∧ (extract w).rs.toNat = w.toNat / 2 ^ 21 % 2 ^ 5 ∧
    (extract w).rt.toNat = w.toNat / 2 ^ 16 % 2 ^ 5 ∧ (extract w).rd.toNat = w.toNat / 2 ^ 11 % 2 ^ 5 ∧
    (extract w).shamt.toNat = w.toNat / 2 ^ 6 % 2 ^ 5 ∧ (extract w).funct.toNat = w.toNat % 2 ^ 6 ∧
    (extract w).imm.toNat = w.toNat % 2 ^ 16 ∧ (extract w).target.toNat = w.toNat % 2 ^ 26 ∧
    (simm (extract w).imm =
      if (w.toNat / 2 ^ 15) % 2 = 1 then ((w.toNat % 2 ^ 16 : Nat) : Int) - 65536 else ((w.toNat % 2 ^ 16 : Nat) : Int)) ∧
    -32768 ≤ simm (extract w).imm ∧ simm (extract w).imm ≤ 32767

/-! ### The instructions -/

/-- SLL, SRL and SRA render `rd, rt, shamt`, the shift amount through the register LUT (R150 to R152); the all-zero SLL
word is NOP when the option is on (R156). That `exec` of the constructor `sll` answers NOP there, where the decoder gives
`nop`, is the MODEL'S CHOICE, log entry 11. -/
def Obligations.ConstantShiftsRender : Prop :=
  ∀ (rs rt rd shamt : RegIx) (s : State),
    let shift := fun (name : String) => name ++ " " ++ regText s.useRegNames rd ++ ", " ++ regText s.useRegNames rt ++
      ", " ++ regText s.useRegNames shamt
    let w : Word := 0#6 ++ rs ++ rt ++ rd ++ shamt ++ 0x00#6
    (¬(s.pseudoInstructions = true ∧ w = 0) →
      Renders (.sll rs rt rd shamt) w s (.insn .SLL [.reg rd, .reg rt, .shamt shamt]) (shift "SLL") none) ∧
    (s.pseudoInstructions = true → w = 0 → Renders (.sll rs rt rd shamt) w s (.insn .NOP []) "NOP" none) ∧
    Renders (.srl rs rt rd shamt) (0#6 ++ rs ++ rt ++ rd ++ shamt ++ 0x02#6) s
      (.insn .SRL [.reg rd, .reg rt, .shamt shamt]) (shift "SRL") none ∧
    Renders (.sra rs rt rd shamt) (0#6 ++ rs ++ rt ++ rd ++ shamt ++ 0x03#6) s
      (.insn .SRA [.reg rd, .reg rt, .shamt shamt]) (shift "SRA") none

/-- The all-zero word renders as NOP when the option is on, at every address, with every table and either register
spelling; with the option off it renders by R150 (R156). That `exec` of the constructor `nop` answers SLL with the option
off, where the decoder gives `sll`, is the MODEL'S CHOICE, log entry 11. -/
def Obligations.NopRenders : Prop :=
  ∀ s : State,
    (s.pseudoInstructions = true → Renders .nop 0 s (.insn .NOP []) "NOP" none) ∧
    (s.pseudoInstructions = false → Renders .nop 0 s (.insn .SLL [.reg 0, .reg 0, .shamt 0])
      (if s.useRegNames then "SLL $zero, $zero, $zero" else "SLL $0, $0, $0") none)

/-- R153, R154, R155: SLLV, SRLV and SRAV render `rd, rt, rs`. -/
def Obligations.VariableShiftsRender : Prop :=
  ∀ (rs rt rd shamt : RegIx) (s : State),
    let shift := fun (name : String) => name ++ " " ++ regText s.useRegNames rd ++ ", " ++ regText s.useRegNames rt ++
      ", " ++ regText s.useRegNames rs
    Renders (.sllv rs rt rd shamt) (0#6 ++ rs ++ rt ++ rd ++ shamt ++ 0x04#6) s
      (.insn .SLLV [.reg rd, .reg rt, .reg rs]) (shift "SLLV") none ∧
    Renders (.srlv rs rt rd shamt) (0#6 ++ rs ++ rt ++ rd ++ shamt ++ 0x06#6) s
      (.insn .SRLV [.reg rd, .reg rt, .reg rs]) (shift "SRLV") none ∧
    Renders (.srav rs rt rd shamt) (0#6 ++ rs ++ rt ++ rd ++ shamt ++ 0x07#6) s
      (.insn .SRAV [.reg rd, .reg rt, .reg rs]) (shift "SRAV") none

/-- JR renders `rs`; JALR renders `rd, rs`, and `rs` alone when `rd = 31` and the option is on; none queries `Lookup`
(R160, R161, R163). What `exec` answers of `jalrOneOperand` with the option off, and of `jalr` with `rd = 31` and the
option on, where the decoder gives the other constructor, is the MODEL'S CHOICE, log entry 11. -/
def Obligations.JumpRegistersRender : Prop :=
  ∀ (rs rt rd shamt : RegIx) (s : State),
    let one := (Record.insn .JALR [.reg rs], "JALR " ++ regText s.useRegNames rs)
    let two := (Record.insn .JALR [.reg rd, .reg rs],
      "JALR " ++ regText s.useRegNames rd ++ ", " ++ regText s.useRegNames rs)
    let jalr := if s.pseudoInstructions = true ∧ rd = 31 then one else two
    Renders (.jr rs rt rd shamt) (0#6 ++ rs ++ rt ++ rd ++ shamt ++ 0x08#6) s
      (.insn .JR [.reg rs]) ("JR " ++ regText s.useRegNames rs) none ∧
    Renders (.jalr rs rt rd shamt) (0#6 ++ rs ++ rt ++ rd ++ shamt ++ 0x09#6) s jalr.1 jalr.2 none ∧
    (rd = 31 → Renders (.jalrOneOperand rs rt shamt) (0#6 ++ rs ++ rt ++ 31#5 ++ shamt ++ 0x09#6) s jalr.1 jalr.2 none)

/-- R162, R235: SYSCALL and the CP0 placeholder render bare, whatever their other bits. -/
def Obligations.SyscallAndCp0Render : Prop :=
  ∀ (code : BitVec 20) (code' : BitVec 26) (s : State),
    Renders (.syscall code) (0#6 ++ code ++ 0x0C#6) s (.insn .SYSCALL []) "SYSCALL" none ∧
    Renders (.cp0 code') (0x10#6 ++ code') s (.insn .CP0 []) "CP0" none

/-- An ADD word renders as MOVE `rd, rs` when `rt = 0` and the option is on, else as ADD `rd, rs, rt`; MOVE's row is the
ADD words with `rt = 0` (R170, R180). What `exec` answers of `move` with the option off, and of `add` with `rt = 0` and
the option on, where the decoder gives the other constructor, is the MODEL'S CHOICE, log entry 11. -/
def Obligations.AddRendersAddOrMove : Prop :=
  ∀ (rs rt rd shamt : RegIx) (s : State),
    let w : Word := 0#6 ++ rs ++ rt ++ rd ++ shamt ++ 0x20#6
    let move := "MOVE " ++ regText s.useRegNames rd ++ ", " ++ regText s.useRegNames rs
    (¬(s.pseudoInstructions = true ∧ rt = 0) → RendersAlu (.add rs rt rd shamt) w .ADD "ADD" rs rt rd s) ∧
    (s.pseudoInstructions = true → rt = 0 →
      Renders (.add rs rt rd shamt) w s (.insn .MOVE [.reg rd, .reg rs]) move none) ∧
    (s.pseudoInstructions = true → rt = 0 →
      Renders (.move rs rd shamt) w s (.insn .MOVE [.reg rd, .reg rs]) move none) ∧
    (s.pseudoInstructions = false → rt = 0 → RendersAlu (.move rs rd shamt) w .ADD "ADD" rs 0 rd s)

/-- R171 to R179: the register-register ALU group renders `rd, rs, rt` under either setting of the pseudo option. -/
def Obligations.RegisterAluRenders : Prop :=
  ∀ (rs rt rd sh : RegIx) (s : State),
    RendersAlu (.addu rs rt rd sh) (0#6 ++ rs ++ rt ++ rd ++ sh ++ 0x21#6) .ADDU "ADDU" rs rt rd s ∧
    RendersAlu (.sub rs rt rd sh) (0#6 ++ rs ++ rt ++ rd ++ sh ++ 0x22#6) .SUB "SUB" rs rt rd s ∧
    RendersAlu (.subu rs rt rd sh) (0#6 ++ rs ++ rt ++ rd ++ sh ++ 0x23#6) .SUBU "SUBU" rs rt rd s ∧
    RendersAlu (.and rs rt rd sh) (0#6 ++ rs ++ rt ++ rd ++ sh ++ 0x24#6) .AND "AND" rs rt rd s ∧
    RendersAlu (.or rs rt rd sh) (0#6 ++ rs ++ rt ++ rd ++ sh ++ 0x25#6) .OR "OR" rs rt rd s ∧
    RendersAlu (.xor rs rt rd sh) (0#6 ++ rs ++ rt ++ rd ++ sh ++ 0x26#6) .XOR "XOR" rs rt rd s ∧
    RendersAlu (.nor rs rt rd sh) (0#6 ++ rs ++ rt ++ rd ++ sh ++ 0x27#6) .NOR "NOR" rs rt rd s ∧
    RendersAlu (.slt rs rt rd sh) (0#6 ++ rs ++ rt ++ rd ++ sh ++ 0x2A#6) .SLT "SLT" rs rt rd s ∧
    RendersAlu (.sltu rs rt rd sh) (0#6 ++ rs ++ rt ++ rd ++ sh ++ 0x2B#6) .SLTU "SLTU" rs rt rd s

/-- R190, R191, R192: BLTZ, BGEZ and BLTZAL render `rs, offset` with the label found at the branch target. -/
def Obligations.RegimmBranchesRender : Prop :=
  ∀ (rs : RegIx) (imm : Imm16) (s : State),
    RendersBranch (.bltz rs imm) (0x01#6 ++ rs ++ 0x00#5 ++ imm) .BLTZ "BLTZ" rs imm s ∧
    RendersBranch (.bgez rs imm) (0x01#6 ++ rs ++ 0x01#5 ++ imm) .BGEZ "BGEZ" rs imm s ∧
    RendersBranch (.bltzal rs imm) (0x01#6 ++ rs ++ 0x10#5 ++ imm) .BLTZAL "BLTZAL" rs imm s

/-- A BGEZAL word renders as BAL `offset` when `rs = 0` and the option is on, else in full; target and look-up are the same
(R193, R194). What `exec` answers of `bal` with the option off, and of `bgezal` with `rs = 0` and the option on, where the
decoder gives the other constructor, is the MODEL'S CHOICE, log entry 11. -/
def Obligations.BgezalRendersBgezalOrBal : Prop :=
  ∀ (rs : RegIx) (imm : Imm16) (s : State),
    let w : Word := 0x01#6 ++ rs ++ 0x11#5 ++ imm
    let bal := (Record.insn .BAL [branchOp s imm], "BAL " ++ branchText s imm)
    let full := (Record.insn .BGEZAL [.reg rs, branchOp s imm],
      "BGEZAL " ++ regText s.useRegNames rs ++ ", " ++ branchText s imm)
    let shown := if s.pseudoInstructions = true ∧ rs = 0 then bal else full
    Renders (.bgezal rs imm) w s shown.1 shown.2 (some (branchTarget s.address imm)) ∧
    (rs = 0 → Renders (.bal imm) w s shown.1 shown.2 (some (branchTarget s.address imm)))

/-- R200, R201: J and JAL render the unscaled field in decimal with the label found at the jump target. -/
def Obligations.JumpsRender : Prop :=
  ∀ (target : Target26) (s : State),
    RendersJump (.j target) (0x02#6 ++ target) .J "J" target s ∧
    RendersJump (.jal target) (0x03#6 ++ target) .JAL "JAL" target s

/-- A BEQ word renders as B `offset` when `rs = rt = 0` and the option is on, else in full; target and look-up are the same
(R210, R214). What `exec` answers of `b` with the option off, and of `beq` with `rs = rt = 0` and the option on, where the
decoder gives the other constructor, is the MODEL'S CHOICE, log entry 11. -/
def Obligations.BeqRendersBeqOrB : Prop :=
  ∀ (rs rt : RegIx) (imm : Imm16) (s : State),
    let w : Word := 0x04#6 ++ rs ++ rt ++ imm
    let b := (Record.insn .B [branchOp s imm], "B " ++ branchText s imm)
    let full := (Record.insn .BEQ [.reg rs, .reg rt, branchOp s imm],
      "BEQ " ++ regText s.useRegNames rs ++ ", " ++ regText s.useRegNames rt ++ ", " ++ branchText s imm)
    let shown := if s.pseudoInstructions = true ∧ rs = 0 ∧ rt = 0 then b else full
    Renders (.beq rs rt imm) w s shown.1 shown.2 (some (branchTarget s.address imm)) ∧
    (rs = 0 → rt = 0 → Renders (.b imm) w s shown.1 shown.2 (some (branchTarget s.address imm)))

/-- R211, R212, R213: BNE renders `rs, rt, offset`; BLEZ and BGTZ render `rs, offset` whatever `rt` is. -/
def Obligations.ComparisonBranchesRender : Prop :=
  ∀ (rs rt : RegIx) (imm : Imm16) (s : State),
    Renders (.bne rs rt imm) (0x05#6 ++ rs ++ rt ++ imm) s (.insn .BNE [.reg rs, .reg rt, branchOp s imm])
      ("BNE " ++ regText s.useRegNames rs ++ ", " ++ regText s.useRegNames rt ++ ", " ++ branchText s imm)
      (some (branchTarget s.address imm)) ∧
    RendersBranch (.blez rs rt imm) (0x06#6 ++ rs ++ rt ++ imm) .BLEZ "BLEZ" rs imm s ∧
    RendersBranch (.bgtz rs rt imm) (0x07#6 ++ rs ++ rt ++ imm) .BGTZ "BGTZ" rs imm s

/-- R220 to R228: the immediate ALU group renders `rt, rs, simm` and LUI `rt, simm`, every immediate signed. -/
def Obligations.ImmediateAluRenders : Prop :=
  ∀ (rs rt : RegIx) (imm : Imm16) (s : State),
    RendersAluImm (.addi rs rt imm) (0x08#6 ++ rs ++ rt ++ imm) .ADDI "ADDI" rs rt imm s ∧
    RendersAluImm (.addiu rs rt imm) (0x09#6 ++ rs ++ rt ++ imm) .ADDIU "ADDIU" rs rt imm s ∧
    RendersAluImm (.slti rs rt imm) (0x0A#6 ++ rs ++ rt ++ imm) .SLTI "SLTI" rs rt imm s ∧
    RendersAluImm (.sltiu rs rt imm) (0x0B#6 ++ rs ++ rt ++ imm) .SLTIU "SLTIU" rs rt imm s ∧
    RendersAluImm (.andi rs rt imm) (0x0C#6 ++ rs ++ rt ++ imm) .ANDI "ANDI" rs rt imm s ∧
    RendersAluImm (.ori rs rt imm) (0x0D#6 ++ rs ++ rt ++ imm) .ORI "ORI" rs rt imm s ∧
    RendersAluImm (.xori rs rt imm) (0x0E#6 ++ rs ++ rt ++ imm) .XORI "XORI" rs rt imm s ∧
    Renders (.lui rs rt imm) (0x0F#6 ++ rs ++ rt ++ imm) s (.insn .LUI [.reg rt, .imm (simm imm)])
      ("LUI " ++ regText s.useRegNames rt ++ ", " ++ decS (simm imm)) none ∧
    simm 0xFFFF = -1 ∧ simm 0x8000 = -32768

/-- R240 to R246: the loads render `rt, simm(rs)`; nothing is loaded. -/
def Obligations.LoadsRender : Prop :=
  ∀ (rs rt : RegIx) (imm : Imm16) (s : State),
    RendersMem (.lb rs rt imm) (0x20#6 ++ rs ++ rt ++ imm) .LB "LB" rs rt imm s ∧
    RendersMem (.lbu rs rt imm) (0x24#6 ++ rs ++ rt ++ imm) .LBU "LBU" rs rt imm s ∧
    RendersMem (.lh rs rt imm) (0x21#6 ++ rs ++ rt ++ imm) .LH "LH" rs rt imm s ∧
    RendersMem (.lhu rs rt imm) (0x25#6 ++ rs ++ rt ++ imm) .LHU "LHU" rs rt imm s ∧
    RendersMem (.lw rs rt imm) (0x23#6 ++ rs ++ rt ++ imm) .LW "LW" rs rt imm s ∧
    RendersMem (.lwl rs rt imm) (0x22#6 ++ rs ++ rt ++ imm) .LWL "LWL" rs rt imm s ∧
    RendersMem (.lwr rs rt imm) (0x26#6 ++ rs ++ rt ++ imm) .LWR "LWR" rs rt imm s

/-- R247 to R251: the stores render `rt, simm(rs)`; nothing is stored. -/
def Obligations.StoresRender : Prop :=
  ∀ (rs rt : RegIx) (imm : Imm16) (s : State),
    RendersMem (.sb rs rt imm) (0x28#6 ++ rs ++ rt ++ imm) .SB "SB" rs rt imm s ∧
    RendersMem (.sh rs rt imm) (0x29#6 ++ rs ++ rt ++ imm) .SH "SH" rs rt imm s ∧
    RendersMem (.sw rs rt imm) (0x2B#6 ++ rs ++ rt ++ imm) .SW "SW" rs rt imm s ∧
    RendersMem (.swl rs rt imm) (0x2A#6 ++ rs ++ rt ++ imm) .SWL "SWL" rs rt imm s ∧
    RendersMem (.swr rs rt imm) (0x2E#6 ++ rs ++ rt ++ imm) .SWR "SWR" rs rt imm s

/-! ### Operands -/

/-- R24, R25, R30: the register multiplexer gives the ROM's name or `$` and the number; under one option two indices never
share a spelling. -/
def Obligations.RegisterMultiplexerSpells : Prop :=
  (∀ i : RegIx, some (regText true i) =
    ["$zero", "$at", "$v0", "$v1", "$a0", "$a1", "$a2", "$a3", "$t0", "$t1", "$t2", "$t3", "$t4", "$t5", "$t6", "$t7",
     "$s0", "$s1", "$s2", "$s3", "$s4", "$s5", "$s6", "$s7", "$t8", "$t9", "$k0", "$k1", "$gp", "$sp", "$fp",
     "$ra"][i.toNat]?) ∧
  (∀ i : RegIx, regText false i = "$" ++ decU i.toNat) ∧
  (∀ (names : Bool) (i j : RegIx), regText names i = regText names j → i = j)

/-- R110: the branch target is `address + 4 + 4·simm` modulo 2^32, the offset in range, and keeps the low two bits of
`address`. -/
def Obligations.BranchTargetIsItsFormula : Prop :=
  ∀ (address : Word) (imm : Imm16),
    ((branchTarget address imm).toNat : Int) = ((address.toNat : Int) + 4 + 4 * simm imm) % 2 ^ 32 ∧
    (branchTarget address imm).toNat % 4 = address.toNat % 4 ∧ -131072 ≤ 4 * simm imm ∧ 4 * simm imm ≤ 131068

/-- R111: the jump target is the top 4 bits of `address` and four times the field; its low two bits are 0. -/
def Obligations.JumpTargetIsItsFormula : Prop :=
  ∀ (address : Word) (target : Target26),
    (jumpTarget address target).toNat = address.toNat / 2 ^ 28 * 2 ^ 28 + 4 * target.toNat ∧
    (jumpTarget address target).extractLsb' 28 4 = address.extractLsb' 28 4 ∧
    (jumpTarget address target).extractLsb' 0 2 = 0

/-- R114: the laws of the resolver's arithmetic. -/
def Obligations.TargetArithmeticLaws : Prop :=
  ∀ (address : Word) (imm : Imm16) (target : Target26),
    (-131072 ≤ 4 * simm imm ∧ 4 * simm imm ≤ 131068) ∧
    branchTarget address imm - address = BitVec.ofInt 32 (4 + 4 * simm imm) ∧
    (-131068 ≤ 4 + 4 * simm imm ∧ 4 + 4 * simm imm ≤ 131072) ∧
    (simm imm = -1 → branchTarget address imm = address) ∧
    (simm imm = 0 → branchTarget address imm = address + 4) ∧
    (simm imm = 0 → branchTarget 0xFFFFFFFC imm = 0) ∧
    (simm imm = -2 → branchTarget 0 imm = 0xFFFFFFFC) ∧
    (jumpTarget address target).extractLsb' 28 4 = address.extractLsb' 28 4

/-- R121: `dec_u(n)` is the shortest string of ASCII digits whose value is `n`; it has no leading zero, and 0 is `0`. -/
def Obligations.UnsignedDecimalIsShortest : Prop :=
  decU 0 = "0" ∧ ∀ n : Nat,
    allDigits (decU n).toList ∧ digitsValue (decU n).toList = n ∧
    (∀ cs, (decU n).toList = '0' :: cs → n = 0 ∧ cs = []) ∧
    ∀ cs, cs ≠ [] → allDigits cs → digitsValue cs = n → (decU n).toList.length ≤ cs.length

/-- R120: `dec_s(v)` is `dec_u(v)`, with `-` before it for a negative `v`; no `+`; two numbers never share a spelling. -/
def Obligations.SignedDecimalSpells : Prop :=
  (∀ n : Nat, decS n = decU n) ∧ (∀ n : Nat, decS (-(n + 1 : Nat)) = "-" ++ decU (n + 1)) ∧
    decS (-32768) = "-32768" ∧ decS 26 = "26" ∧ (∀ v, '+' ∉ (decS v).toList) ∧ ∀ v v' : Int, decS v = decS v' → v = v'

/-- A line tells its mnemonic: two supported lines that are equal, in any register spelling, have one mnemonic. -/
def Obligations.LineTellsItsMnemonic : Prop :=
  ∀ (names names' : Bool) (mn mn' : Mnemonic) (ops ops' : List Operand),
    lineText names (.insn mn ops) = lineText names' (.insn mn' ops') → mn = mn'

/-! ### The symbol table -/

/-- R41: while the caller holds a table in canonical form, `Lookup` answers the label under exactly that key, and nothing
where the caller has no such key. -/
def Obligations.LookupIsExactKeyEquality : Prop :=
  ∀ (s : State) (a : Word), s.symbolsDuring = none → SymTab.wf s.symbols = true →
    (∀ n, s.lookup a = some n ↔ (a, n) ∈ s.symbols) ∧ (s.lookup a = none ↔ ∀ e ∈ s.symbols, e.1 ≠ a)

/-- A transaction under a changing table gives what it would give with the old or with the new contents held (R50). That
the change is complete when the transaction ends, so that the next one finds the new contents, held, is the MODEL'S
CHOICE, log entry 12: R50 speaks only of a change the caller completes before a transaction starts. -/
def Obligations.ChangedTableGivesOldOrNewAnswer : Prop :=
  ∀ (s t : State) (new : SymTab), s.symbolsDuring = some new → step s = .next t →
    (∃ tab t', (tab = s.symbols ∨ tab = new) ∧ step { s with symbols := tab, symbolsDuring := none } = .next t' ∧
      t.outputs = t'.outputs) ∧ t.symbols = new ∧ t.symbolsDuring = none

/-- R44, R113: exactly the branches and the direct jumps query `Lookup`, once, at the target that R110 or R111 computes. -/
def Obligations.OnlyTargetsAreQueried : Prop :=
  ∀ s t : State, step s = .next t →
    (isBranch s.word → t.lookupRequest = some (branchTarget s.address (s.word.extractLsb' 0 16))) ∧
    (isJump s.word → t.lookupRequest = some (jumpTarget s.address (s.word.extractLsb' 0 26))) ∧
    (¬ isBranch s.word → ¬ isJump s.word → t.lookupRequest = none)

/-- R22: for a word that is no branch and no direct jump, neither the address nor the table has an effect on an output. -/
def Obligations.AddressAndTableReachOnlyTargets : Prop :=
  ∀ s s' t t' : State, s.word = s'.word → s.useRegNames = s'.useRegNames →
    s.pseudoInstructions = s'.pseudoInstructions → ¬ isBranch s.word → ¬ isJump s.word →
    step s = .next t → step s' = .next t' → t.outputs = t'.outputs

/-! ### The options -/

/-- R142, R29: flipping `use_reg_names` leaves the record and the query; each text is the record's line in its spelling;
immediates, branch and jump operands are spelled alike in both. -/
def Obligations.RegNamesChangeSpellingOnly : Prop :=
  (∀ s t t' : State, step s = .next t → step { s with useRegNames := !s.useRegNames } = .next t' →
    t'.record = t.record ∧ t'.lookupRequest = t.lookupRequest ∧
    ∃ r, t.record = some r ∧ t.text = some (lineText s.useRegNames r) ∧ t'.text = some (lineText (!s.useRegNames) r)) ∧
  (∀ r : Record,
    (∀ mn ops, r = .insn mn ops → ∀ o ∈ ops, (∀ i, o ≠ .reg i) ∧ (∀ i, o ≠ .shamt i) ∧ ∀ off i, o ≠ .mem off i) →
    lineText true r = lineText false r)

/-- R133: with `pseudo_instructions = 0` a supported word renders as its base row says, mnemonic and every operand; never as
NOP, MOVE, B or BAL. -/
def Obligations.PseudoOffRendersInFull : Prop :=
  ∀ (s t : State) (mn : Mnemonic) (ops : List Operand), s.pseudoInstructions = false → step s = .next t →
    t.record = some (.insn mn ops) →
    (∃ row ∈ baseRows, row.matchesWord s.word = true ∧ mn = row.mn ∧
      ops = row.template.map (buildOperand s.word s.address s.lookup)) ∧
    mn ≠ .NOP ∧ mn ≠ .MOVE ∧ mn ≠ .B ∧ mn ≠ .BAL

/-- R130, R131: turning `pseudo_instructions` on changes a transaction's record on the words of the five patterns only, and
there to the pseudo form. -/
def Obligations.PseudoOnChangesFivePatternsOnly : Prop :=
  ∀ (s t t' : State), s.pseudoInstructions = false → step s = .next t →
    step { s with pseudoInstructions := true } = .next t' →
    let w := s.word
    let br := branchOp s (w.extractLsb' 0 16)
    let rs := Operand.reg (w.extractLsb' 21 5)
    let rd := Operand.reg (w.extractLsb' 11 5)
    t'.record =
      if w = 0 then some (.insn .NOP [])
      else if w &&& 0xFC1F003F = 0x00000020 then some (.insn .MOVE [rd, rs])
      else if w &&& 0xFC00F83F = 0x0000F809 then some (.insn .JALR [rs])
      else if w &&& 0xFFFF0000 = 0x04110000 then some (.insn .BAL [br])
      else if w &&& 0xFFFF0000 = 0x10000000 then some (.insn .B [br])
      else t.record

/-! ### Whole-machine rules -/

/-- R74: two words that differ in don't-care bits only give the same outputs, the NOP test of the whole word apart. -/
def Obligations.DontCareBitsHaveNoEffect : Prop :=
  ∀ (s t t' : State) (w : Word), s.word &&& ~~~(dontCare s.word) = w &&& ~~~(dontCare s.word) →
    (s.pseudoInstructions = true → s.word ≠ 0 ∧ w ≠ 0) →
    step s = .next t → step { s with word := w } = .next t' → t.outputs = t'.outputs

/-- R37: two transactions with equal word, address and options and equal `Lookup` answers give equal outputs, whatever their
tables and earlier outputs are. -/
def Obligations.EqualInputsGiveEqualOutputs : Prop :=
  ∀ s s' t t' : State, s.word = s'.word → s.address = s'.address → s.useRegNames = s'.useRegNames →
    s.pseudoInstructions = s'.pseudoInstructions → (∀ a, s.lookup a = s'.lookup a) →
    step s = .next t → step s' = .next t' → t.outputs = t'.outputs

/-- R291, R294: in any sequence of transactions, from any state, each gives the output it would give alone as the first
after reset. -/
def Obligations.TransactionsAreIndependent : Prop :=
  ∀ (xs : List Inputs) (s : State),
    transcript xs s = xs.flatMap (fun x => transcript [x] State.reset) ∧ (transcript xs s).length = xs.length

/-- R49: while the table is held, repeating a transaction leaves everything as the first left it. -/
def Obligations.TransactionIsIdempotent : Prop :=
  ∀ s t : State, s.symbolsDuring = none → step s = .next t → step t = .next t

/-- R12, R23: a character that is not printable ASCII reaches the text from a label only; so, if no label holds a line
break, the text is one line. -/
def Obligations.BlockMakesOnlyPrintableAscii : Prop :=
  ∀ (s t : State) (txt : String) (c : Char), ¬(32 ≤ c.toNat ∧ c.toNat ≤ 126) →
    (∀ e ∈ s.symbols, c ∉ e.2.toList) → (∀ new, s.symbolsDuring = some new → ∀ e ∈ new, c ∉ e.2.toList) →
    step s = .next t → t.text = some txt → c ∉ txt.toList

/-- R36: the zero-configuration form renders every word with address 0, no labels, names and pseudo forms. -/
def Obligations.ZeroConfigurationRenders : Prop :=
  ∀ (w : Word) (s : State), ∃ t : State, transact (Inputs.zeroConfig w) s = .next t ∧
    t.record = some (tableRecord true w 0 (fun _ => none)) ∧
    t.text = some (lineText true (tableRecord true w 0 (fun _ => none)))

/-- R293: a host's listing gives word `k` the address `base + 4·k`, the options and the table held. -/
def Obligations.ListingAddressesAreConsecutive : Prop :=
  ∀ (base : Word) (names pseudo : Bool) (tab : SymTab) (ws : List Word) (k : Nat) (w : Word), ws[k]? = some w →
    (listing base names pseudo tab ws)[k]? = some ⟨w, base + BitVec.ofNat 32 (4 * k), names, pseudo, tab⟩

/-! ### The words with a pseudo form, as words alone -/

/-- R150 to R152, R156, R160, R161, R163: what a transaction on the word of SLL, SRL, SRA, JR or JALR gives, NOP and the
one-operand JALR among them, whatever the don't-care fields are. -/
def Obligations.ShiftAndJumpWordsRender : Prop :=
  ∀ (rs rt rd shamt : RegIx) (s : State),
    let reg := regText s.useRegNames
    let shift := fun (name : String) => name ++ " " ++ reg rd ++ ", " ++ reg rt ++ ", " ++ reg shamt
    let sll : Word := 0#6 ++ rs ++ rt ++ rd ++ shamt ++ 0x00#6
    let jalr : Word := 0#6 ++ rs ++ rt ++ rd ++ shamt ++ 0x09#6
    (¬(s.pseudoInstructions = true ∧ sll = 0) →
      WordRenders sll s (.insn .SLL [.reg rd, .reg rt, .shamt shamt]) (shift "SLL") none) ∧
    (s.pseudoInstructions = true → WordRenders 0 s (.insn .NOP []) "NOP" none) ∧
    WordRenders (0#6 ++ rs ++ rt ++ rd ++ shamt ++ 0x02#6) s (.insn .SRL [.reg rd, .reg rt, .shamt shamt])
      (shift "SRL") none ∧
    WordRenders (0#6 ++ rs ++ rt ++ rd ++ shamt ++ 0x03#6) s (.insn .SRA [.reg rd, .reg rt, .shamt shamt])
      (shift "SRA") none ∧
    WordRenders (0#6 ++ rs ++ rt ++ rd ++ shamt ++ 0x08#6) s (.insn .JR [.reg rs]) ("JR " ++ reg rs) none ∧
    (¬(s.pseudoInstructions = true ∧ rd = 31) →
      WordRenders jalr s (.insn .JALR [.reg rd, .reg rs]) ("JALR " ++ reg rd ++ ", " ++ reg rs) none) ∧
    (s.pseudoInstructions = true → rd = 31 → WordRenders jalr s (.insn .JALR [.reg rs]) ("JALR " ++ reg rs) none)

/-- R170, R180, R193, R194, R210, R214: what a transaction on the word of ADD, BGEZAL or BEQ gives, MOVE, BAL and B among
them. -/
def Obligations.AddAndBranchWordsRender : Prop :=
  ∀ (rs rt rd shamt : RegIx) (imm : Imm16) (s : State),
    let reg := regText s.useRegNames
    let target := some (branchTarget s.address imm)
    let add : Word := 0#6 ++ rs ++ rt ++ rd ++ shamt ++ 0x20#6
    let bgezal : Word := 0x01#6 ++ rs ++ 0x11#5 ++ imm
    let beq : Word := 0x04#6 ++ rs ++ rt ++ imm
    (¬(s.pseudoInstructions = true ∧ rt = 0) →
      WordRenders add s (.insn .ADD [.reg rd, .reg rs, .reg rt])
        ("ADD " ++ reg rd ++ ", " ++ reg rs ++ ", " ++ reg rt) none) ∧
    (s.pseudoInstructions = true → rt = 0 →
      WordRenders add s (.insn .MOVE [.reg rd, .reg rs]) ("MOVE " ++ reg rd ++ ", " ++ reg rs) none) ∧
    (¬(s.pseudoInstructions = true ∧ rs = 0) →
      WordRenders bgezal s (.insn .BGEZAL [.reg rs, branchOp s imm])
        ("BGEZAL " ++ reg rs ++ ", " ++ branchText s imm) target) ∧
    (s.pseudoInstructions = true → rs = 0 →
      WordRenders bgezal s (.insn .BAL [branchOp s imm]) ("BAL " ++ branchText s imm) target) ∧
    (¬(s.pseudoInstructions = true ∧ rs = 0 ∧ rt = 0) →
      WordRenders beq s (.insn .BEQ [.reg rs, .reg rt, branchOp s imm])
        ("BEQ " ++ reg rs ++ ", " ++ reg rt ++ ", " ++ branchText s imm) target) ∧
    (s.pseudoInstructions = true → rs = 0 → rt = 0 →
      WordRenders beq s (.insn .B [branchOp s imm]) ("B " ++ branchText s imm) target)
end

