-- ==== Sys2Proof/Laws/Decode.lean ====
section
/-! SUPPORT. The encoder's words as numbers, and what the extractor cuts from them. -/

namespace Sys2Proof

/-- Concatenation as arithmetic. -/
theorem toNat_append_eq {m n : Nat} (a : BitVec m) (b : BitVec n) :
    (a ++ b).toNat = a.toNat * 2 ^ n + b.toNat := by
  rw [BitVec.toNat_append, ← Nat.shiftLeft_add_eq_or_of_lt b.isLt, Nat.shiftLeft_eq]

theorem toNat_rWord (rs rt rd shamt : RegIx) (funct : BitVec 6) :
    (rWord rs rt rd shamt funct).toNat =
      rs.toNat * 2 ^ 21 + rt.toNat * 2 ^ 16 + rd.toNat * 2 ^ 11 + shamt.toNat * 2 ^ 6 + funct.toNat := by
  unfold rWord
  simp only [toNat_append_eq]
  simp
  omega

theorem toNat_iWord (opcode : BitVec 6) (rs rt : RegIx) (imm : Imm16) :
    (iWord opcode rs rt imm).toNat = opcode.toNat * 2 ^ 26 + rs.toNat * 2 ^ 21 + rt.toNat * 2 ^ 16 + imm.toNat := by
  unfold iWord
  simp only [toNat_append_eq]
  omega

theorem toNat_jWord (opcode : BitVec 6) (target : Target26) :
    (jWord opcode target).toNat = opcode.toNat * 2 ^ 26 + target.toNat := by
  unfold jWord
  simp only [toNat_append_eq]

theorem toNat_syscallWord (code : BitVec 20) :
    (0#6 ++ code ++ 0x0C#6 : Word).toNat = code.toNat * 2 ^ 6 + 12 := by
  simp only [toNat_append_eq]
  simp

/-- A field of a word as arithmetic. -/
theorem toNat_field (w : Word) (lo n : Nat) : (w.extractLsb' lo n).toNat = w.toNat / 2 ^ lo % 2 ^ n := by
  rw [BitVec.extractLsb'_toNat, Nat.shiftRight_eq_div_pow]

section RType
variable (rs rt rd shamt : RegIx) (funct : BitVec 6)

theorem extract_rWord : extract (rWord rs rt rd shamt funct) =
    ⟨0#6, rs, rt, rd, shamt, funct, (rWord rs rt rd shamt funct).extractLsb' 0 16,
      (rWord rs rt rd shamt funct).extractLsb' 0 26⟩ := by
  have := rs.isLt; have := rt.isLt; have := rd.isLt; have := shamt.isLt; have := funct.isLt
  simp only [extract, Fields.mk.injEq, and_true]
  refine ⟨?_, ?_, ?_, ?_, ?_, ?_⟩ <;> apply BitVec.eq_of_toNat_eq <;>
    simp only [toNat_field, toNat_rWord, BitVec.toNat_ofNat] <;> omega
end RType

section IType
variable (opcode : BitVec 6) (rs rt : RegIx) (imm : Imm16)

theorem extract_iWord : extract (iWord opcode rs rt imm) =
    ⟨opcode, rs, rt, (iWord opcode rs rt imm).extractLsb' 11 5, (iWord opcode rs rt imm).extractLsb' 6 5,
      (iWord opcode rs rt imm).extractLsb' 0 6, imm, (iWord opcode rs rt imm).extractLsb' 0 26⟩ := by
  have := opcode.isLt; have := rs.isLt; have := rt.isLt; have := imm.isLt
  simp only [extract, Fields.mk.injEq, and_true, true_and]
  refine ⟨?_, ?_, ?_, ?_⟩ <;> apply BitVec.eq_of_toNat_eq <;>
    simp only [toNat_field, toNat_iWord] <;> omega
end IType

section JType
variable (opcode : BitVec 6) (target : Target26)

theorem extract_jWord_opcode : (extract (jWord opcode target)).opcode = opcode := by
  have := opcode.isLt; have := target.isLt
  apply BitVec.eq_of_toNat_eq
  simp only [extract, toNat_field, toNat_jWord]; omega

theorem extract_jWord_target : (extract (jWord opcode target)).target = target := by
  have := opcode.isLt; have := target.isLt
  apply BitVec.eq_of_toNat_eq
  simp only [extract, toNat_field, toNat_jWord]; omega
end JType

/-! ### A word is put together again from its fields -/

theorem rWord_extract (w : Word) (h : (extract w).opcode = 0#6) :
    rWord (extract w).rs (extract w).rt (extract w).rd (extract w).shamt (extract w).funct = w := by
  have hw := w.isLt
  have h' : w.toNat / 2 ^ 26 % 2 ^ 6 = 0 := by
    rw [← toNat_field]; exact congrArg BitVec.toNat h
  apply BitVec.eq_of_toNat_eq
  simp only [toNat_rWord, extract, toNat_field]
  omega

theorem iWord_extract (w : Word) :
    iWord (extract w).opcode (extract w).rs (extract w).rt (extract w).imm = w := by
  have hw := w.isLt
  apply BitVec.eq_of_toNat_eq
  simp only [toNat_iWord, extract, toNat_field]
  omega

theorem jWord_extract (w : Word) : jWord (extract w).opcode (extract w).target = w := by
  have hw := w.isLt
  apply BitVec.eq_of_toNat_eq
  simp only [toNat_jWord, extract, toNat_field]
  omega

/-! ### Masks: a word as six fields -/

/-- Concatenation and bitwise and. -/
theorem and_append {m n : Nat} (a c : BitVec m) (b d : BitVec n) :
    (a ++ b) &&& (c ++ d) = (a &&& c) ++ (b &&& d) := by
  apply BitVec.eq_of_getLsbD_eq
  intro i hi
  simp only [BitVec.getLsbD_and, BitVec.getLsbD_append]
  split <;> rfl

/-- A word as its six R-type fields, whatever its format. -/
def sixFields (op : BitVec 6) (rs rt rd sh : RegIx) (f : BitVec 6) : Word := op ++ rs ++ rt ++ rd ++ sh ++ f

theorem toNat_sixFields (op : BitVec 6) (rs rt rd sh : RegIx) (f : BitVec 6) :
    (sixFields op rs rt rd sh f).toNat = op.toNat * 2 ^ 26 + rs.toNat * 2 ^ 21 + rt.toNat * 2 ^ 16 +
      rd.toNat * 2 ^ 11 + sh.toNat * 2 ^ 6 + f.toNat := by
  unfold sixFields
  simp only [toNat_append_eq]
  omega

theorem and_sixFields (op op' : BitVec 6) (rs rt rd sh rs' rt' rd' sh' : RegIx) (f f' : BitVec 6) :
    sixFields op rs rt rd sh f &&& sixFields op' rs' rt' rd' sh' f' =
      sixFields (op &&& op') (rs &&& rs') (rt &&& rt') (rd &&& rd') (sh &&& sh') (f &&& f') := by
  unfold sixFields
  exact (and_append _ _ _ _).trans (by rw [and_append, and_append, and_append, and_append])

theorem sixFields_inj (op op' : BitVec 6) (rs rt rd sh rs' rt' rd' sh' : RegIx) (f f' : BitVec 6) :
    sixFields op rs rt rd sh f = sixFields op' rs' rt' rd' sh' f' ↔
      op = op' ∧ rs = rs' ∧ rt = rt' ∧ rd = rd' ∧ sh = sh' ∧ f = f' := by
  constructor
  · intro h
    have h := congrArg BitVec.toNat h
    simp only [toNat_sixFields] at h
    have := op.isLt; have := rs.isLt; have := rt.isLt; have := rd.isLt; have := sh.isLt; have := f.isLt
    have := op'.isLt; have := rs'.isLt; have := rt'.isLt; have := rd'.isLt; have := sh'.isLt; have := f'.isLt
    refine ⟨?_, ?_, ?_, ?_, ?_, ?_⟩ <;> apply BitVec.eq_of_toNat_eq <;> omega
  · rintro ⟨rfl, rfl, rfl, rfl, rfl, rfl⟩; rfl

theorem sixFields_extract (w : Word) :
    sixFields (extract w).opcode (extract w).rs (extract w).rt (extract w).rd (extract w).shamt (extract w).funct = w := by
  have hw := w.isLt
  apply BitVec.eq_of_toNat_eq
  simp only [toNat_sixFields, extract, toNat_field]
  omega

theorem and_ones5 : ∀ x : RegIx, x &&& 31#5 = x := by decide
theorem and_ones6 : ∀ x : BitVec 6, x &&& 63#6 = x := by decide
theorem and_zero5 (x : RegIx) : x &&& 0#5 = 0#5 := by simp
theorem and_zero6 (x : BitVec 6) : x &&& 0#6 = 0#6 := by simp

/-- A masked word against a pattern, field by field. -/
theorem masked_eq_iff (w : Word) (op op' : BitVec 6) (rs rt rd sh rs' rt' rd' sh' : RegIx) (f f' : BitVec 6) :
    w &&& sixFields op rs rt rd sh f = sixFields op' rs' rt' rd' sh' f' ↔
      (extract w).opcode &&& op = op' ∧ (extract w).rs &&& rs = rs' ∧ (extract w).rt &&& rt = rt' ∧
        (extract w).rd &&& rd = rd' ∧ (extract w).shamt &&& sh = sh' ∧ (extract w).funct &&& f = f' := by
  rw [← sixFields_inj, ← and_sixFields, sixFields_extract]

end Sys2Proof
end

