-- ==== Sys2Proof/Laws/State.lean ====
section
/-! SUPPORT. What each update of the state does to each field: one lemma per field per update. -/

namespace Sys2Proof.Machine

/-! ### `emit` writes the three output ports and nothing else -/

section Emit
variable (r : Record) (q : Option Word) (s : State)

@[simp] theorem State.emit_word : (s.emit r q).word = s.word := rfl
@[simp] theorem State.emit_address : (s.emit r q).address = s.address := rfl
@[simp] theorem State.emit_useRegNames : (s.emit r q).useRegNames = s.useRegNames := rfl
@[simp] theorem State.emit_pseudoInstructions : (s.emit r q).pseudoInstructions = s.pseudoInstructions := rfl
@[simp] theorem State.emit_symbols : (s.emit r q).symbols = s.symbols := rfl
@[simp] theorem State.emit_symbolsDuring : (s.emit r q).symbolsDuring = s.symbolsDuring := rfl
@[simp] theorem State.emit_lookupRequest : (s.emit r q).lookupRequest = q := rfl
@[simp] theorem State.emit_text : (s.emit r q).text = some (lineText s.useRegNames r) := rfl
@[simp] theorem State.emit_record : (s.emit r q).record = some r := rfl
@[simp] theorem State.emit_tableChanges : (s.emit r q).tableChanges = s.tableChanges := rfl
@[simp] theorem State.emit_lookup : (s.emit r q).lookup = s.lookup := rfl
end Emit

theorem State.emitUnsupported_eq (s : State) : s.emitUnsupported = s.emit .unsupported none := rfl

/-! ### `settle` touches the table and its bookkeeping only -/

section Settle
variable (s : State)

@[simp] theorem State.settle_word : s.settle.word = s.word := by unfold State.settle; split <;> rfl
@[simp] theorem State.settle_address : s.settle.address = s.address := by unfold State.settle; split <;> rfl
@[simp] theorem State.settle_useRegNames : s.settle.useRegNames = s.useRegNames := by unfold State.settle; split <;> rfl
@[simp] theorem State.settle_pseudoInstructions : s.settle.pseudoInstructions = s.pseudoInstructions := by
  unfold State.settle; split <;> rfl
@[simp] theorem State.settle_lookupRequest : s.settle.lookupRequest = s.lookupRequest := by
  unfold State.settle; split <;> rfl
@[simp] theorem State.settle_text : s.settle.text = s.text := by unfold State.settle; split <;> rfl
@[simp] theorem State.settle_record : s.settle.record = s.record := by unfold State.settle; split <;> rfl
@[simp] theorem State.settle_symbolsDuring : s.settle.symbolsDuring = none := by
  unfold State.settle; split
  · assumption
  · rfl
@[simp] theorem State.settle_symbols : s.settle.symbols = s.symbolsDuring.getD s.symbols := by
  unfold State.settle; split <;> simp [*]

theorem State.settle_of_held (h : s.symbolsDuring = none) : s.settle = s := by
  unfold State.settle; simp [h]
end Settle

/-! ### `supply` writes the inputs and leaves the outputs -/

section Supply
variable (x : Inputs) (s : State)

@[simp] theorem State.supply_word : (s.supply x).word = x.word := rfl
@[simp] theorem State.supply_address : (s.supply x).address = x.address := rfl
@[simp] theorem State.supply_useRegNames : (s.supply x).useRegNames = x.useRegNames := rfl
@[simp] theorem State.supply_pseudoInstructions : (s.supply x).pseudoInstructions = x.pseudoInstructions := rfl
@[simp] theorem State.supply_symbols : (s.supply x).symbols = x.symbols := rfl
@[simp] theorem State.supply_symbolsDuring : (s.supply x).symbolsDuring = none := rfl
@[simp] theorem State.supply_lookupRequest : (s.supply x).lookupRequest = s.lookupRequest := rfl
@[simp] theorem State.supply_text : (s.supply x).text = s.text := rfl
@[simp] theorem State.supply_record : (s.supply x).record = s.record := rfl
@[simp] theorem State.supply_tableChanges : (s.supply x).tableChanges = s.tableChanges := rfl
end Supply

/-! ### `withFetchWord` writes `word` alone -/

section Fetch
variable (s : State) (nbits w : Nat)

@[simp] theorem State.withFetchWord_word : (s.withFetchWord nbits w).word = BitVec.ofNat 32 (w % 2 ^ nbits) := rfl
@[simp] theorem State.withFetchWord_pseudoInstructions :
    (s.withFetchWord nbits w).pseudoInstructions = s.pseudoInstructions := rfl
@[simp] theorem State.withFetchWord_address : (s.withFetchWord nbits w).address = s.address := rfl
@[simp] theorem State.withFetchWord_symbols : (s.withFetchWord nbits w).symbols = s.symbols := rfl
end Fetch

/-! ### The `Lookup` port -/

theorem State.lookup_of_held (s : State) (h : s.symbolsDuring = none) : s.lookup = SymTab.find s.symbols := by
  funext a; simp [State.lookup, h]

/-- Under a changing table the port answers from the old or from the new contents, from one of them for the whole
transaction. -/
theorem State.lookup_of_changing (s : State) (new : SymTab) (h : s.symbolsDuring = some new) :
    s.lookup = SymTab.find s.symbols ∨ s.lookup = SymTab.find new := by
  by_cases hf : Config.lookupSeesNewTable s.tableChanges
  · right; funext a; simp [State.lookup, h, hf]
  · left; funext a; simp [State.lookup, h, hf]

end Sys2Proof.Machine
end

