-- ==== Sys2Proof/Laws/Exec.lean ====
section
/-! SUPPORT. What `exec` and `step` can do, said once: every instruction answers a next state that differs in the three
output ports alone, with a record of one of the block's templates and the query of its target operand. -/

namespace Sys2Proof.Machine

/-- The immediate's range (R67). -/
theorem simm_range (imm : Imm16) : -32768 ≤ simm imm ∧ simm imm ≤ 32767 := by
  have h := imm.isLt
  unfold simm
  rw [BitVec.msb_eq_decide]
  split <;> rename_i hc <;> simp only [decide_eq_true_eq] at hc <;> omega

/-- An answer that emits a record of the block's templates. -/
def Emits (s : State) (a : Answer) : Prop :=
  ∃ r : Record, a = .next (s.emit r r.target) ∧ r.wf = true

/-- A record is well formed when its operands fit the template of a row with its mnemonic. -/
theorem Record.wf_of_row {mn : Mnemonic} {ops : List Operand} {row : TableRow} (h : row ∈ pseudoRows ++ baseRows)
    (hm : row.mn = mn) (hf : fitsTemplate ops row.template = true) : (Record.insn mn ops).wf = true := by
  simp only [Record.wf, List.any_eq_true]
  exact ⟨row, h, by simp [hf, hm]⟩

@[simp] theorem fits_rd (i : RegIx) : (Operand.reg i).fits .rd = true := rfl
@[simp] theorem fits_rs (i : RegIx) : (Operand.reg i).fits .rs = true := rfl
@[simp] theorem fits_rt (i : RegIx) : (Operand.reg i).fits .rt = true := rfl
@[simp] theorem fits_shamt (i : RegIx) : (Operand.shamt i).fits .shamt = true := rfl

@[simp] theorem fits_simm (imm : Imm16) : (Operand.imm (simm imm)).fits .simm = true := by
  simpa [Operand.fits] using simm_range imm

@[simp] theorem fits_mem (imm : Imm16) (rs : RegIx) : (Operand.mem (simm imm) rs).fits .mem = true := by
  simpa [Operand.fits] using simm_range imm

@[simp] theorem fits_branch (imm : Imm16) (tgt : Word) (l : Option Label) :
    (Operand.brTgt (simm imm) tgt l).fits .branch = true := by
  simpa [Operand.fits] using simm_range imm

section Shared
variable {pat : Word} (s : State) (rs rt rd shamt : RegIx) (imm : Imm16) (target : Target26)

/-- A shared operation with a template of registers, a shift amount or nothing. -/
theorem emits_plain {mn : Mnemonic} {ops : List Operand} (ht : (Record.insn mn ops).target = none)
    (hw : (Record.insn mn ops).wf = true) : Emits s (emitPlain mn ops s) :=
  ⟨.insn mn ops, by rw [ht]; rfl, hw⟩

theorem emits_aluImm {mn : Mnemonic} (h : primaryRow mn pat [.rt, .rs, .simm] ∈ pseudoRows ++ baseRows) :
    Emits s (emitAluImm mn rs rt imm s) :=
  emits_plain s rfl (Record.wf_of_row h rfl (by simp [fitsTemplate, primaryRow]))

theorem emits_mem {mn : Mnemonic} (h : primaryRow mn pat [.rt, .mem] ∈ pseudoRows ++ baseRows) :
    Emits s (emitMem mn rs rt imm s) :=
  emits_plain s rfl (Record.wf_of_row h rfl (by simp [fitsTemplate, primaryRow]))

theorem emits_jump {mn : Mnemonic} (h : primaryRow mn pat [.jump] ∈ pseudoRows ++ baseRows) :
    Emits s (emitJump mn target s) :=
  ⟨_, rfl, Record.wf_of_row h rfl rfl⟩

theorem emits_branch0 {mn : Mnemonic} (h : ⟨mn, pat, 0xFFFF0000, [.branch]⟩ ∈ pseudoRows ++ baseRows) :
    Emits s (emitBranch mn [] imm s) :=
  ⟨_, rfl, Record.wf_of_row h rfl (by simp [fitsTemplate])⟩

theorem emits_branch1 {mn : Mnemonic} {row : TableRow} (h : row ∈ pseudoRows ++ baseRows) (hm : row.mn = mn)
    (ht : row.template = [.rs, .branch]) : Emits s (emitBranch mn [.reg rs] imm s) :=
  ⟨_, rfl, Record.wf_of_row h hm (by simp [ht, fitsTemplate])⟩

theorem emits_branch2 {mn : Mnemonic} (h : primaryRow mn pat [.rs, .rt, .branch] ∈ pseudoRows ++ baseRows) :
    Emits s (emitBranch mn [.reg rs, .reg rt] imm s) :=
  ⟨_, rfl, Record.wf_of_row h rfl (by simp [fitsTemplate, primaryRow])⟩
end Shared

/-! ### The five words with two renderings -/

theorem emits_renderSll (rs rt rd shamt : RegIx) (s : State) : Emits s (renderSll rs rt rd shamt s) := by
  unfold renderSll; split <;> exact emits_plain s rfl rfl

theorem emits_renderAdd (rs rt rd : RegIx) (s : State) : Emits s (renderAdd rs rt rd s) := by
  unfold renderAdd; split <;> exact emits_plain s rfl rfl

theorem emits_renderJalr (rs rd : RegIx) (s : State) : Emits s (renderJalr rs rd s) := by
  unfold renderJalr; split <;> exact emits_plain s rfl rfl

theorem emits_renderBgezal (rs : RegIx) (imm : Imm16) (s : State) : Emits s (renderBgezal rs imm s) := by
  unfold renderBgezal; split
  · exact emits_branch0 s imm (pat := 0x04110000) (by decide)
  · exact emits_branch1 s rs imm (row := regimmRow .BGEZAL 0x04110000) (by decide) rfl rfl

theorem emits_renderBeq (rs rt : RegIx) (imm : Imm16) (s : State) : Emits s (renderBeq rs rt imm s) := by
  unfold renderBeq; split
  · exact emits_branch0 s imm (pat := 0x10000000) (by decide)
  · exact emits_branch2 s rs rt imm (pat := 0x10000000) (by decide)

/-! ### `exec` and `step` -/

/-- Every instruction, in every state, emits a record of the block's templates. -/
theorem exec_emits (i : Instr) (s : State) : Emits s (exec i s) := by
  cases i with
  | sll rs rt rd shamt => exact emits_renderSll rs rt rd shamt s
  | nop => exact emits_renderSll 0 0 0 0 s
  | add rs rt rd => exact emits_renderAdd rs rt rd s
  | move rs rd => exact emits_renderAdd rs 0 rd s
  | jalr rs _ rd => exact emits_renderJalr rs rd s
  | jalrOneOperand rs => exact emits_renderJalr rs 31 s
  | bgezal rs imm => exact emits_renderBgezal rs imm s
  | bal imm => exact emits_renderBgezal 0 imm s
  | beq rs rt imm => exact emits_renderBeq rs rt imm s
  | b imm => exact emits_renderBeq 0 0 imm s
  | bltz rs imm => exact emits_branch1 s rs imm (row := regimmRow .BLTZ 0x04000000) (by decide) rfl rfl
  | bgez rs imm => exact emits_branch1 s rs imm (row := regimmRow .BGEZ 0x04010000) (by decide) rfl rfl
  | bltzal rs imm => exact emits_branch1 s rs imm (row := regimmRow .BLTZAL 0x04100000) (by decide) rfl rfl
  | blez rs _ imm => exact emits_branch1 s rs imm (row := primaryRow .BLEZ 0x18000000 [.rs, .branch]) (by decide) rfl rfl
  | bgtz rs _ imm => exact emits_branch1 s rs imm (row := primaryRow .BGTZ 0x1C000000 [.rs, .branch]) (by decide) rfl rfl
  | bne rs rt imm => exact emits_branch2 s rs rt imm (pat := 0x14000000) (by decide)
  | j target => exact emits_jump s target (pat := 0x08000000) (by decide)
  | jal target => exact emits_jump s target (pat := 0x0C000000) (by decide)
  | addi rs rt imm => exact emits_aluImm s rs rt imm (pat := 0x20000000) (by decide)
  | addiu rs rt imm => exact emits_aluImm s rs rt imm (pat := 0x24000000) (by decide)
  | slti rs rt imm => exact emits_aluImm s rs rt imm (pat := 0x28000000) (by decide)
  | sltiu rs rt imm => exact emits_aluImm s rs rt imm (pat := 0x2C000000) (by decide)
  | andi rs rt imm => exact emits_aluImm s rs rt imm (pat := 0x30000000) (by decide)
  | ori rs rt imm => exact emits_aluImm s rs rt imm (pat := 0x34000000) (by decide)
  | xori rs rt imm => exact emits_aluImm s rs rt imm (pat := 0x38000000) (by decide)
  | lui _ rt imm =>
    exact emits_plain s rfl (Record.wf_of_row (row := primaryRow .LUI 0x3C000000 [.rt, .simm]) (by decide) rfl
      (by simp [fitsTemplate, primaryRow]))
  | lb rs rt imm => exact emits_mem s rs rt imm (pat := 0x80000000) (by decide)
  | lh rs rt imm => exact emits_mem s rs rt imm (pat := 0x84000000) (by decide)
  | lwl rs rt imm => exact emits_mem s rs rt imm (pat := 0x88000000) (by decide)
  | lw rs rt imm => exact emits_mem s rs rt imm (pat := 0x8C000000) (by decide)
  | lbu rs rt imm => exact emits_mem s rs rt imm (pat := 0x90000000) (by decide)
  | lhu rs rt imm => exact emits_mem s rs rt imm (pat := 0x94000000) (by decide)
  | lwr rs rt imm => exact emits_mem s rs rt imm (pat := 0x98000000) (by decide)
  | sb rs rt imm => exact emits_mem s rs rt imm (pat := 0xA0000000) (by decide)
  | sh rs rt imm => exact emits_mem s rs rt imm (pat := 0xA4000000) (by decide)
  | swl rs rt imm => exact emits_mem s rs rt imm (pat := 0xA8000000) (by decide)
  | sw rs rt imm => exact emits_mem s rs rt imm (pat := 0xAC000000) (by decide)
  | swr rs rt imm => exact emits_mem s rs rt imm (pat := 0xB8000000) (by decide)
  | _ => exact emits_plain s rfl rfl

/-- A step whose word decodes runs its instruction and then ends a table change. -/
theorem step_of_decode {s : State} {i : Instr} (h : decode s.pseudoInstructions s.word = .ok i) :
    ∃ r : Record, exec i s = .next (s.emit r r.target) ∧ r.wf = true ∧ step s = .next (s.emit r r.target).settle := by
  obtain ⟨r, hr, hw⟩ := exec_emits i s
  exact ⟨r, hr, hw, by simp [step, h, hr]⟩

/-- A step whose word is unsupported ends at dispatch. -/
theorem step_of_unsupported {s : State} {c : Cause} (h : decode s.pseudoInstructions s.word = .error c) :
    step s = .next s.emitUnsupported.settle := by
  simp [step, h]

/-- Everything a step can do: it answers a next state, which is the state with the output ports written and a table
change ended. -/
theorem step_emits (s : State) : ∃ r : Record, step s = .next (s.emit r r.target).settle ∧ r.wf = true := by
  cases h : decode s.pseudoInstructions s.word with
  | ok i => obtain ⟨r, _, hw, hs⟩ := step_of_decode h; exact ⟨r, hs, hw⟩
  | error c => exact ⟨.unsupported, step_of_unsupported h, rfl⟩

end Sys2Proof.Machine
end

