-- ==== Sys2Proof/Laws/Dispatch.lean ====
section
/-! SUPPORT. A step in terms of the dispatcher's base instruction: which row of the table the pseudo stage picks plays no
part in what a word renders as. -/

namespace Sys2Proof.Machine

/-- A pseudo row's meaning is its base word's (R130, R131). -/
theorem exec_substitute (i : Instr) (s : State) : exec (substitute i) s = exec i s := by
  unfold substitute
  split
  · split
    · rename_i h
      simp only [nopPattern, Bool.and_eq_true, beq_iff_eq] at h
      obtain ⟨⟨⟨rfl, rfl⟩, rfl⟩, rfl⟩ := h
      rfl
    · rfl
  · split
    · rename_i h; simp only [movePattern, beq_iff_eq] at h; subst h; rfl
    · rfl
  · split
    · rename_i h; simp only [jalrPattern, beq_iff_eq] at h; subst h; rfl
    · rfl
  · split
    · rename_i h; simp only [balPattern, beq_iff_eq] at h; subst h; rfl
    · rfl
  · split
    · rename_i h
      simp only [bPattern, Bool.and_eq_true, beq_iff_eq] at h
      obtain ⟨rfl, rfl⟩ := h
      rfl
    · rfl
  · rfl

/-- A step runs the base instruction of its word. -/
theorem step_of_dispatch {s t : State} {i : Instr} (h : dispatch (extract s.word) = .ok i) (ht : exec i s = .next t) :
    step s = .next t.settle := by
  unfold step decode
  rw [h]
  cases s.pseudoInstructions <;> simp [exec_substitute, ht]

/-- A step on an unsupported word ends at dispatch. -/
theorem step_of_dispatch_error {s : State} {c : Cause} (h : dispatch (extract s.word) = .error c) :
    step s = .next s.emitUnsupported.settle := by
  unfold step decode
  rw [h]

end Sys2Proof.Machine
end

