-- ==== Sys2Proof/Laws/Operands.lean ====
section
/-! SUPPORT. The operands' arithmetic in the form proofs use: the immediate as a signed number, the targets as sums, and
the table's operand builder in terms of the extractor's fields. -/

namespace Sys2Proof.Machine

/-- The immediate is its two's complement value (R67). -/
theorem simm_eq_toInt (imm : Imm16) : simm imm = imm.toInt := by
  unfold simm
  rw [BitVec.toInt_eq_msb_cond]
  split <;> simp_all

/-- The branch target as one sum (R110). -/
theorem branchTarget_eq (a : Word) (imm : Imm16) : branchTarget a imm = a + BitVec.ofInt 32 (4 + 4 * simm imm) := by
  have h : imm.signExtend 32 <<< 2 = BitVec.ofInt 32 (4 * simm imm) := by
    rw [simm_eq_toInt, BitVec.signExtend, BitVec.shiftLeft_eq_mul_twoPow, mul_comm, BitVec.ofInt_mul]
    congr 1
  unfold branchTarget
  rw [h, BitVec.add_assoc, BitVec.ofInt_add]
  congr 1

/-- The jump target as a number (R111). -/
theorem jumpTarget_toNat (a : Word) (t : Target26) :
    (jumpTarget a t).toNat = a.toNat / 2 ^ 28 * 2 ^ 28 + 4 * t.toNat := by
  have h : jumpTarget a t = a.extractLsb' 28 4 ++ t ++ 0#2 := by
    apply BitVec.eq_of_getLsbD_eq
    intro i hi
    change _ = BitVec.getLsbD (w := 4 + 26 + 2) (a.extractLsb' 28 4 ++ t ++ 0#2) i
    rw [BitVec.getLsbD_append, BitVec.getLsbD_append]
    interval_cases i <;> simp [jumpTarget]
  have := a.isLt
  rw [h, toNat_append_eq, toNat_append_eq]
  simp only [toNat_field, BitVec.toNat_ofNat]
  omega

/-- The shift-and-mask cuts of the table's builder are the extractor's fields (R69, R140). -/
theorem buildOperand_eq (w a : Word) (l : Word → Option Label) (k : OperandKind) : buildOperand w a l k =
    match k with
    | .rd => .reg (extract w).rd
    | .rs => .reg (extract w).rs
    | .rt => .reg (extract w).rt
    | .shamt => .shamt (extract w).shamt
    | .simm => .imm (simm (extract w).imm)
    | .mem => .mem (simm (extract w).imm) (extract w).rs
    | .branch => .brTgt (simm (extract w).imm) (branchTarget a (extract w).imm) (l (branchTarget a (extract w).imm))
    | .jump => .jTgt (extract w).target (jumpTarget a (extract w).target) (l (jumpTarget a (extract w).target)) := by
  have e1 : (((w >>> 21) &&& 0x1F).truncate 5 : RegIx) = (extract w).rs := by
    apply BitVec.eq_of_getLsbD_eq; intro i hi; interval_cases i <;> simp [extract]
  have e2 : (((w >>> 16) &&& 0x1F).truncate 5 : RegIx) = (extract w).rt := by
    apply BitVec.eq_of_getLsbD_eq; intro i hi; interval_cases i <;> simp [extract]
  have e3 : (((w >>> 11) &&& 0x1F).truncate 5 : RegIx) = (extract w).rd := by
    apply BitVec.eq_of_getLsbD_eq; intro i hi; interval_cases i <;> simp [extract]
  have e4 : (((w >>> 6) &&& 0x1F).truncate 5 : RegIx) = (extract w).shamt := by
    apply BitVec.eq_of_getLsbD_eq; intro i hi; interval_cases i <;> simp [extract]
  have e5 : ((w &&& 0xFFFF).truncate 16 : Imm16) = (extract w).imm := by
    apply BitVec.eq_of_getLsbD_eq; intro i hi; interval_cases i <;> simp [extract]
  have e6 : ((w &&& 0x3FFFFFF).truncate 26 : Target26) = (extract w).target := by
    apply BitVec.eq_of_getLsbD_eq; intro i hi; interval_cases i <;> simp [extract]
  cases k <;> simp only [buildOperand, e1, e2, e3, e4, e5, e6]

end Sys2Proof.Machine
end

