-- ==== Sys2Proof/Laws/Table.lean ====
section
/-! SUPPORT. The opcode table's tests, mask by mask, as conditions on fields. -/

namespace Sys2Proof.Machine

variable (w : Word) (mn : Mnemonic) (t : List OperandKind)

theorem special_matches (p : Word) (f : BitVec 6) (h : p = sixFields 0 0 0 0 0 f) :
    (specialRow mn p t).matchesWord w = true ↔ (extract w).opcode = 0#6 ∧ (extract w).funct = f := by
  subst h
  simp only [TableRow.matchesWord, specialRow, beq_iff_eq]
  rw [show (0xFC00003F : Word) = sixFields 63#6 0#5 0#5 0#5 0#5 63#6 by decide, masked_eq_iff]
  simp [and_ones6]

theorem regimm_matches (p : Word) (sel : RegIx) (h : p = sixFields 1 0 sel 0 0 0) :
    (regimmRow mn p).matchesWord w = true ↔ (extract w).opcode = 1#6 ∧ (extract w).rt = sel := by
  subst h
  simp only [TableRow.matchesWord, regimmRow, beq_iff_eq]
  rw [show (0xFC1F0000 : Word) = sixFields 63#6 0#5 31#5 0#5 0#5 0#6 by decide, masked_eq_iff]
  simp [and_ones6, and_ones5]

theorem primary_matches (p : Word) (op : BitVec 6) (h : p = sixFields op 0 0 0 0 0) :
    (primaryRow mn p t).matchesWord w = true ↔ (extract w).opcode = op := by
  subst h
  simp only [TableRow.matchesWord, primaryRow, beq_iff_eq]
  rw [show (0xFC000000 : Word) = sixFields 63#6 0#5 0#5 0#5 0#5 0#6 by decide, masked_eq_iff]
  simp [and_ones6]

theorem nop_matches : (TableRow.mk .NOP 0x00000000 0xFFFFFFFF t).matchesWord w = true ↔ w = 0#32 := by
  simp only [TableRow.matchesWord, beq_iff_eq]
  rw [show (0xFFFFFFFF : Word) = BitVec.allOnes 32 by decide, BitVec.and_allOnes]
  rfl

theorem move_matches : (TableRow.mk .MOVE 0x00000020 0xFC1F003F t).matchesWord w = true ↔
    (extract w).opcode = 0#6 ∧ (extract w).rt = 0#5 ∧ (extract w).funct = 0x20#6 := by
  simp only [TableRow.matchesWord, beq_iff_eq]
  rw [show (0xFC1F003F : Word) = sixFields 63#6 0#5 31#5 0#5 0#5 63#6 by decide,
    show (0x00000020 : Word) = sixFields 0 0 0 0 0 0x20 by decide, masked_eq_iff]
  simp [and_ones6, and_ones5]

theorem jalrOneOperand_matches : (TableRow.mk .JALR 0x0000F809 0xFC00F83F t).matchesWord w = true ↔
    (extract w).opcode = 0#6 ∧ (extract w).rd = 31#5 ∧ (extract w).funct = 0x09#6 := by
  simp only [TableRow.matchesWord, beq_iff_eq]
  rw [show (0xFC00F83F : Word) = sixFields 63#6 0#5 0#5 31#5 0#5 63#6 by decide,
    show (0x0000F809 : Word) = sixFields 0 0 0 31 0 9 by decide, masked_eq_iff]
  simp [and_ones6, and_ones5]

theorem bal_matches : (TableRow.mk .BAL 0x04110000 0xFFFF0000 t).matchesWord w = true ↔
    (extract w).opcode = 1#6 ∧ (extract w).rs = 0#5 ∧ (extract w).rt = 0x11#5 := by
  simp only [TableRow.matchesWord, beq_iff_eq]
  rw [show (0xFFFF0000 : Word) = sixFields 63#6 31#5 31#5 0#5 0#5 0#6 by decide,
    show (0x04110000 : Word) = sixFields 1 0 0x11 0 0 0 by decide, masked_eq_iff]
  simp [and_ones6, and_ones5]

theorem b_matches : (TableRow.mk .B 0x10000000 0xFFFF0000 t).matchesWord w = true ↔
    (extract w).opcode = 4#6 ∧ (extract w).rs = 0#5 ∧ (extract w).rt = 0#5 := by
  simp only [TableRow.matchesWord, beq_iff_eq]
  rw [show (0xFFFF0000 : Word) = sixFields 63#6 31#5 31#5 0#5 0#5 0#6 by decide,
    show (0x10000000 : Word) = sixFields 4 0 0 0 0 0 by decide, masked_eq_iff]
  simp [and_ones6, and_ones5]

end Sys2Proof.Machine
end

