-- ==== Sys2Proof/Laws/PerInstr.lean ====
section
/-! SUPPORT. Per instruction: the word an instruction encodes to is a word of its own row of spec/opcode_table.json. -/

namespace Sys2Proof.Laws.TableRow

open Sys2Proof.Machine

/-- The mnemonic of an instruction's row. -/
def mnemonic (i : Instr) : Mnemonic :=
  match i with
  | .sll .. => .SLL
  | .srl .. => .SRL
  | .sra .. => .SRA
  | .sllv .. => .SLLV
  | .srlv .. => .SRLV
  | .srav .. => .SRAV
  | .jr .. => .JR
  | .jalr .. => .JALR
  | .syscall .. => .SYSCALL
  | .add .. => .ADD
  | .addu .. => .ADDU
  | .sub .. => .SUB
  | .subu .. => .SUBU
  | .and .. => .AND
  | .or .. => .OR
  | .xor .. => .XOR
  | .nor .. => .NOR
  | .slt .. => .SLT
  | .sltu .. => .SLTU
  | .bltz .. => .BLTZ
  | .bgez .. => .BGEZ
  | .bltzal .. => .BLTZAL
  | .bgezal .. => .BGEZAL
  | .j .. => .J
  | .jal .. => .JAL
  | .beq .. => .BEQ
  | .bne .. => .BNE
  | .blez .. => .BLEZ
  | .bgtz .. => .BGTZ
  | .addi .. => .ADDI
  | .addiu .. => .ADDIU
  | .slti .. => .SLTI
  | .sltiu .. => .SLTIU
  | .andi .. => .ANDI
  | .ori .. => .ORI
  | .xori .. => .XORI
  | .lui .. => .LUI
  | .cp0 .. => .CP0
  | .lb .. => .LB
  | .lh .. => .LH
  | .lwl .. => .LWL
  | .lw .. => .LW
  | .lbu .. => .LBU
  | .lhu .. => .LHU
  | .lwr .. => .LWR
  | .sb .. => .SB
  | .sh .. => .SH
  | .swl .. => .SWL
  | .sw .. => .SW
  | .swr .. => .SWR
  | .nop => .NOP
  | .move .. => .MOVE
  | .jalrOneOperand .. => .JALR
  | .bal .. => .BAL
  | .b .. => .B

/-- `i`'s word passes the mask and match test of a row of the table, and that row stands for `i`'s mnemonic. -/
def Statement (i : Instr) : Prop :=
  ∃ row ∈ pseudoRows ++ baseRows, row.mn = mnemonic i ∧ row.matchesWord (encode i) = true

/-! ### The fields of each kind of word -/

theorem opcode_rWord (rs rt rd sh : RegIx) (f : BitVec 6) : (extract (rWord rs rt rd sh f)).opcode = 0#6 := by
  rw [extract_rWord]
theorem funct_rWord (rs rt rd sh : RegIx) (f : BitVec 6) : (extract (rWord rs rt rd sh f)).funct = f := by
  rw [extract_rWord]
theorem rt_rWord (rs rt rd sh : RegIx) (f : BitVec 6) : (extract (rWord rs rt rd sh f)).rt = rt := by
  rw [extract_rWord]
theorem rd_rWord (rs rt rd sh : RegIx) (f : BitVec 6) : (extract (rWord rs rt rd sh f)).rd = rd := by
  rw [extract_rWord]
theorem opcode_iWord (op : BitVec 6) (rs rt : RegIx) (imm : Imm16) : (extract (iWord op rs rt imm)).opcode = op := by
  rw [extract_iWord]
theorem rs_iWord (op : BitVec 6) (rs rt : RegIx) (imm : Imm16) : (extract (iWord op rs rt imm)).rs = rs := by
  rw [extract_iWord]
theorem rt_iWord (op : BitVec 6) (rs rt : RegIx) (imm : Imm16) : (extract (iWord op rs rt imm)).rt = rt := by
  rw [extract_iWord]

theorem fields_syscallWord (code : BitVec 20) : (extract (encode (.syscall code))).opcode = 0#6 ∧
    (extract (encode (.syscall code))).funct = 0x0C#6 := by
  have := code.isLt
  constructor <;> apply BitVec.eq_of_toNat_eq <;>
    simp only [encode, extract, toNat_field, toNat_syscallWord, BitVec.toNat_ofNat] <;> omega

/-! ### The shared cases -/

theorem of_special {i : Instr} {mn : Mnemonic} (hmn : mnemonic i = mn) {p : Word} {f : BitVec 6} {t : List OperandKind}
    (hm : specialRow mn p t ∈ pseudoRows ++ baseRows) (hp : p = sixFields 0 0 0 0 0 f)
    (hi : (extract (encode i)).opcode = 0#6 ∧ (extract (encode i)).funct = f) : Statement i :=
  ⟨_, hm, hmn.symm, (special_matches _ _ _ _ _ hp).2 hi⟩

theorem of_primary {i : Instr} {mn : Mnemonic} (hmn : mnemonic i = mn) {p : Word} {op : BitVec 6} {t : List OperandKind}
    (hm : primaryRow mn p t ∈ pseudoRows ++ baseRows) (hp : p = sixFields op 0 0 0 0 0)
    (hi : (extract (encode i)).opcode = op) : Statement i :=
  ⟨_, hm, hmn.symm, (primary_matches _ _ _ _ _ hp).2 hi⟩

theorem of_regimm {i : Instr} {mn : Mnemonic} (hmn : mnemonic i = mn) {p : Word} {sel : RegIx}
    (hm : regimmRow mn p ∈ pseudoRows ++ baseRows) (hp : p = sixFields 1 0 sel 0 0 0)
    (hi : (extract (encode i)).opcode = 1#6 ∧ (extract (encode i)).rt = sel) : Statement i :=
  ⟨_, hm, hmn.symm, (regimm_matches _ _ _ _ hp).2 hi⟩

/-! ### One lemma per instruction -/

theorem sll (rs) (rt) (rd) (shamt) : Statement (.sll rs rt rd shamt) :=
  of_special (t := [.rd, .rt, .shamt]) (p := 0x00000000) (f := 0x00) (mn := .SLL) rfl (by decide) (by decide) ⟨opcode_rWord .., funct_rWord ..⟩
theorem srl (rs) (rt) (rd) (shamt) : Statement (.srl rs rt rd shamt) :=
  of_special (t := [.rd, .rt, .shamt]) (p := 0x00000002) (f := 0x02) (mn := .SRL) rfl (by decide) (by decide) ⟨opcode_rWord .., funct_rWord ..⟩
theorem sra (rs) (rt) (rd) (shamt) : Statement (.sra rs rt rd shamt) :=
  of_special (t := [.rd, .rt, .shamt]) (p := 0x00000003) (f := 0x03) (mn := .SRA) rfl (by decide) (by decide) ⟨opcode_rWord .., funct_rWord ..⟩
theorem sllv (rs) (rt) (rd) (shamt) : Statement (.sllv rs rt rd shamt) :=
  of_special (t := [.rd, .rt, .rs]) (p := 0x00000004) (f := 0x04) (mn := .SLLV) rfl (by decide) (by decide) ⟨opcode_rWord .., funct_rWord ..⟩
theorem srlv (rs) (rt) (rd) (shamt) : Statement (.srlv rs rt rd shamt) :=
  of_special (t := [.rd, .rt, .rs]) (p := 0x00000006) (f := 0x06) (mn := .SRLV) rfl (by decide) (by decide) ⟨opcode_rWord .., funct_rWord ..⟩
theorem srav (rs) (rt) (rd) (shamt) : Statement (.srav rs rt rd shamt) :=
  of_special (t := [.rd, .rt, .rs]) (p := 0x00000007) (f := 0x07) (mn := .SRAV) rfl (by decide) (by decide) ⟨opcode_rWord .., funct_rWord ..⟩
theorem jr (rs) (rt) (rd) (shamt) : Statement (.jr rs rt rd shamt) :=
  of_special (t := [.rs]) (p := 0x00000008) (f := 0x08) (mn := .JR) rfl (by decide) (by decide) ⟨opcode_rWord .., funct_rWord ..⟩
theorem jalr (rs) (rt) (rd) (shamt) : Statement (.jalr rs rt rd shamt) :=
  of_special (t := [.rd, .rs]) (p := 0x00000009) (f := 0x09) (mn := .JALR) rfl (by decide) (by decide) ⟨opcode_rWord .., funct_rWord ..⟩
theorem syscall (code) : Statement (.syscall code) :=
  of_special (t := []) (p := 0x0000000C) (f := 0x0C) (mn := .SYSCALL) rfl (by decide) (by decide) (fields_syscallWord code)
theorem add (rs) (rt) (rd) (shamt) : Statement (.add rs rt rd shamt) :=
  of_special (t := [.rd, .rs, .rt]) (p := 0x00000020) (f := 0x20) (mn := .ADD) rfl (by decide) (by decide) ⟨opcode_rWord .., funct_rWord ..⟩
theorem addu (rs) (rt) (rd) (shamt) : Statement (.addu rs rt rd shamt) :=
  of_special (t := [.rd, .rs, .rt]) (p := 0x00000021) (f := 0x21) (mn := .ADDU) rfl (by decide) (by decide) ⟨opcode_rWord .., funct_rWord ..⟩
theorem sub (rs) (rt) (rd) (shamt) : Statement (.sub rs rt rd shamt) :=
  of_special (t := [.rd, .rs, .rt]) (p := 0x00000022) (f := 0x22) (mn := .SUB) rfl (by decide) (by decide) ⟨opcode_rWord .., funct_rWord ..⟩
theorem subu (rs) (rt) (rd) (shamt) : Statement (.subu rs rt rd shamt) :=
  of_special (t := [.rd, .rs, .rt]) (p := 0x00000023) (f := 0x23) (mn := .SUBU) rfl (by decide) (by decide) ⟨opcode_rWord .., funct_rWord ..⟩
theorem and (rs) (rt) (rd) (shamt) : Statement (.and rs rt rd shamt) :=
  of_special (t := [.rd, .rs, .rt]) (p := 0x00000024) (f := 0x24) (mn := .AND) rfl (by decide) (by decide) ⟨opcode_rWord .., funct_rWord ..⟩
theorem or (rs) (rt) (rd) (shamt) : Statement (.or rs rt rd shamt) :=
  of_special (t := [.rd, .rs, .rt]) (p := 0x00000025) (f := 0x25) (mn := .OR) rfl (by decide) (by decide) ⟨opcode_rWord .., funct_rWord ..⟩
theorem xor (rs) (rt) (rd) (shamt) : Statement (.xor rs rt rd shamt) :=
  of_special (t := [.rd, .rs, .rt]) (p := 0x00000026) (f := 0x26) (mn := .XOR) rfl (by decide) (by decide) ⟨opcode_rWord .., funct_rWord ..⟩
theorem nor (rs) (rt) (rd) (shamt) : Statement (.nor rs rt rd shamt) :=
  of_special (t := [.rd, .rs, .rt]) (p := 0x00000027) (f := 0x27) (mn := .NOR) rfl (by decide) (by decide) ⟨opcode_rWord .., funct_rWord ..⟩
theorem slt (rs) (rt) (rd) (shamt) : Statement (.slt rs rt rd shamt) :=
  of_special (t := [.rd, .rs, .rt]) (p := 0x0000002A) (f := 0x2A) (mn := .SLT) rfl (by decide) (by decide) ⟨opcode_rWord .., funct_rWord ..⟩
theorem sltu (rs) (rt) (rd) (shamt) : Statement (.sltu rs rt rd shamt) :=
  of_special (t := [.rd, .rs, .rt]) (p := 0x0000002B) (f := 0x2B) (mn := .SLTU) rfl (by decide) (by decide) ⟨opcode_rWord .., funct_rWord ..⟩
theorem bltz (rs) (imm) : Statement (.bltz rs imm) :=
  of_regimm (p := 0x04000000) (sel := 0x00) (mn := .BLTZ) rfl (by decide) (by decide) ⟨opcode_iWord .., rt_iWord ..⟩
theorem bgez (rs) (imm) : Statement (.bgez rs imm) :=
  of_regimm (p := 0x04010000) (sel := 0x01) (mn := .BGEZ) rfl (by decide) (by decide) ⟨opcode_iWord .., rt_iWord ..⟩
theorem bltzal (rs) (imm) : Statement (.bltzal rs imm) :=
  of_regimm (p := 0x04100000) (sel := 0x10) (mn := .BLTZAL) rfl (by decide) (by decide) ⟨opcode_iWord .., rt_iWord ..⟩
theorem bgezal (rs) (imm) : Statement (.bgezal rs imm) :=
  of_regimm (p := 0x04110000) (sel := 0x11) (mn := .BGEZAL) rfl (by decide) (by decide) ⟨opcode_iWord .., rt_iWord ..⟩
theorem j (target) : Statement (.j target) :=
  of_primary (t := [.jump]) (p := 0x08000000) (op := 0x02) (mn := .J) rfl (by decide) (by decide) (extract_jWord_opcode ..)
theorem jal (target) : Statement (.jal target) :=
  of_primary (t := [.jump]) (p := 0x0C000000) (op := 0x03) (mn := .JAL) rfl (by decide) (by decide) (extract_jWord_opcode ..)
theorem beq (rs) (rt) (imm) : Statement (.beq rs rt imm) :=
  of_primary (t := [.rs, .rt, .branch]) (p := 0x10000000) (op := 0x04) (mn := .BEQ) rfl (by decide) (by decide) (opcode_iWord ..)
theorem bne (rs) (rt) (imm) : Statement (.bne rs rt imm) :=
  of_primary (t := [.rs, .rt, .branch]) (p := 0x14000000) (op := 0x05) (mn := .BNE) rfl (by decide) (by decide) (opcode_iWord ..)
theorem blez (rs) (rt) (imm) : Statement (.blez rs rt imm) :=
  of_primary (t := [.rs, .branch]) (p := 0x18000000) (op := 0x06) (mn := .BLEZ) rfl (by decide) (by decide) (opcode_iWord ..)
theorem bgtz (rs) (rt) (imm) : Statement (.bgtz rs rt imm) :=
  of_primary (t := [.rs, .branch]) (p := 0x1C000000) (op := 0x07) (mn := .BGTZ) rfl (by decide) (by decide) (opcode_iWord ..)
theorem addi (rs) (rt) (imm) : Statement (.addi rs rt imm) :=
  of_primary (t := [.rt, .rs, .simm]) (p := 0x20000000) (op := 0x08) (mn := .ADDI) rfl (by decide) (by decide) (opcode_iWord ..)
theorem addiu (rs) (rt) (imm) : Statement (.addiu rs rt imm) :=
  of_primary (t := [.rt, .rs, .simm]) (p := 0x24000000) (op := 0x09) (mn := .ADDIU) rfl (by decide) (by decide) (opcode_iWord ..)
theorem slti (rs) (rt) (imm) : Statement (.slti rs rt imm) :=
  of_primary (t := [.rt, .rs, .simm]) (p := 0x28000000) (op := 0x0A) (mn := .SLTI) rfl (by decide) (by decide) (opcode_iWord ..)
theorem sltiu (rs) (rt) (imm) : Statement (.sltiu rs rt imm) :=
  of_primary (t := [.rt, .rs, .simm]) (p := 0x2C000000) (op := 0x0B) (mn := .SLTIU) rfl (by decide) (by decide) (opcode_iWord ..)
theorem andi (rs) (rt) (imm) : Statement (.andi rs rt imm) :=
  of_primary (t := [.rt, .rs, .simm]) (p := 0x30000000) (op := 0x0C) (mn := .ANDI) rfl (by decide) (by decide) (opcode_iWord ..)
theorem ori (rs) (rt) (imm) : Statement (.ori rs rt imm) :=
  of_primary (t := [.rt, .rs, .simm]) (p := 0x34000000) (op := 0x0D) (mn := .ORI) rfl (by decide) (by decide) (opcode_iWord ..)
theorem xori (rs) (rt) (imm) : Statement (.xori rs rt imm) :=
  of_primary (t := [.rt, .rs, .simm]) (p := 0x38000000) (op := 0x0E) (mn := .XORI) rfl (by decide) (by decide) (opcode_iWord ..)
theorem lui (rs) (rt) (imm) : Statement (.lui rs rt imm) :=
  of_primary (t := [.rt, .simm]) (p := 0x3C000000) (op := 0x0F) (mn := .LUI) rfl (by decide) (by decide) (opcode_iWord ..)
theorem cp0 (code) : Statement (.cp0 code) :=
  of_primary (t := []) (p := 0x40000000) (op := 0x10) (mn := .CP0) rfl (by decide) (by decide) (extract_jWord_opcode ..)
theorem lb (rs) (rt) (imm) : Statement (.lb rs rt imm) :=
  of_primary (t := [.rt, .mem]) (p := 0x80000000) (op := 0x20) (mn := .LB) rfl (by decide) (by decide) (opcode_iWord ..)
theorem lh (rs) (rt) (imm) : Statement (.lh rs rt imm) :=
  of_primary (t := [.rt, .mem]) (p := 0x84000000) (op := 0x21) (mn := .LH) rfl (by decide) (by decide) (opcode_iWord ..)
theorem lwl (rs) (rt) (imm) : Statement (.lwl rs rt imm) :=
  of_primary (t := [.rt, .mem]) (p := 0x88000000) (op := 0x22) (mn := .LWL) rfl (by decide) (by decide) (opcode_iWord ..)
theorem lw (rs) (rt) (imm) : Statement (.lw rs rt imm) :=
  of_primary (t := [.rt, .mem]) (p := 0x8C000000) (op := 0x23) (mn := .LW) rfl (by decide) (by decide) (opcode_iWord ..)
theorem lbu (rs) (rt) (imm) : Statement (.lbu rs rt imm) :=
  of_primary (t := [.rt, .mem]) (p := 0x90000000) (op := 0x24) (mn := .LBU) rfl (by decide) (by decide) (opcode_iWord ..)
theorem lhu (rs) (rt) (imm) : Statement (.lhu rs rt imm) :=
  of_primary (t := [.rt, .mem]) (p := 0x94000000) (op := 0x25) (mn := .LHU) rfl (by decide) (by decide) (opcode_iWord ..)
theorem lwr (rs) (rt) (imm) : Statement (.lwr rs rt imm) :=
  of_primary (t := [.rt, .mem]) (p := 0x98000000) (op := 0x26) (mn := .LWR) rfl (by decide) (by decide) (opcode_iWord ..)
theorem sb (rs) (rt) (imm) : Statement (.sb rs rt imm) :=
  of_primary (t := [.rt, .mem]) (p := 0xA0000000) (op := 0x28) (mn := .SB) rfl (by decide) (by decide) (opcode_iWord ..)
theorem sh (rs) (rt) (imm) : Statement (.sh rs rt imm) :=
  of_primary (t := [.rt, .mem]) (p := 0xA4000000) (op := 0x29) (mn := .SH) rfl (by decide) (by decide) (opcode_iWord ..)
theorem swl (rs) (rt) (imm) : Statement (.swl rs rt imm) :=
  of_primary (t := [.rt, .mem]) (p := 0xA8000000) (op := 0x2A) (mn := .SWL) rfl (by decide) (by decide) (opcode_iWord ..)
theorem sw (rs) (rt) (imm) : Statement (.sw rs rt imm) :=
  of_primary (t := [.rt, .mem]) (p := 0xAC000000) (op := 0x2B) (mn := .SW) rfl (by decide) (by decide) (opcode_iWord ..)
theorem swr (rs) (rt) (imm) : Statement (.swr rs rt imm) :=
  of_primary (t := [.rt, .mem]) (p := 0xB8000000) (op := 0x2E) (mn := .SWR) rfl (by decide) (by decide) (opcode_iWord ..)
theorem nop : Statement (.nop) :=
  ⟨⟨.NOP, 0x00000000, 0xFFFFFFFF, []⟩, by decide, rfl, (nop_matches _ _).2 rfl⟩
theorem move (rs) (rd) (shamt) : Statement (.move rs rd shamt) :=
  ⟨⟨.MOVE, 0x00000020, 0xFC1F003F, [.rd, .rs]⟩, by decide, rfl, (move_matches _ _).2 ⟨opcode_rWord .., rt_rWord .., funct_rWord ..⟩⟩
theorem jalrOneOperand (rs) (rt) (shamt) : Statement (.jalrOneOperand rs rt shamt) :=
  ⟨⟨.JALR, 0x0000F809, 0xFC00F83F, [.rs]⟩, by decide, rfl, (jalrOneOperand_matches _ _).2 ⟨opcode_rWord .., rd_rWord .., funct_rWord ..⟩⟩
theorem bal (imm) : Statement (.bal imm) :=
  ⟨⟨.BAL, 0x04110000, 0xFFFF0000, [.branch]⟩, by decide, rfl, (bal_matches _ _).2 ⟨opcode_iWord .., rs_iWord .., rt_iWord ..⟩⟩
theorem b (imm) : Statement (.b imm) :=
  ⟨⟨.B, 0x10000000, 0xFFFF0000, [.branch]⟩, by decide, rfl, (b_matches _ _).2 ⟨opcode_iWord .., rs_iWord .., rt_iWord ..⟩⟩

end Sys2Proof.Laws.TableRow
end

