-- ==== Sys2Proof/Laws/Symbols.lean ====
section
/-! SUPPORT. The symbol table's laws: read after write, other keys untouched, and every operation keeps the canonical
form. -/

namespace Sys2Proof.Machine

@[simp] theorem SymTab.find_nil (a : Word) : SymTab.find [] a = none := rfl

theorem SymTab.find_cons (k : Word) (n : Label) (t : SymTab) (a : Word) :
    SymTab.find ((k, n) :: t) a = if k = a then some n else SymTab.find t a := rfl

theorem SymTab.find_insert (t : SymTab) (a b : Word) (n : Label) :
    SymTab.find (SymTab.insert t a n) b = if a = b then some n else SymTab.find t b := by
  induction t with
  | nil => rfl
  | cons e t ih =>
    obtain ⟨k, m⟩ := e
    unfold SymTab.insert
    split
    · simp [SymTab.find_cons]
    · split
      · subst a; by_cases h : k = b <;> simp [SymTab.find_cons, h]
      · by_cases h : k = b
        · have : a ≠ b := by rintro rfl; exact absurd h.symm ‹_›
          simp [SymTab.find_cons, h, this]
        · simp [SymTab.find_cons, h, ih]

theorem SymTab.wf_cons (e : Word × Label) (t : SymTab) :
    SymTab.wf (e :: t) = true ↔ (∀ e' ∈ t, e.1 < e'.1) ∧ SymTab.wf t = true := by
  induction t generalizing e with
  | nil => simp [SymTab.wf]
  | cons e' t ih =>
    have h : SymTab.wf (e :: e' :: t) = true ↔ e.1 < e'.1 ∧ SymTab.wf (e' :: t) = true := by
      simp [SymTab.wf]
    rw [h, ih e']
    constructor
    · rintro ⟨h1, h2, h3⟩
      refine ⟨?_, h2, h3⟩
      rintro x (_ | ⟨_, hx⟩)
      · exact h1
      · exact BitVec.lt_trans h1 (h2 x hx)
    · rintro ⟨h1, h2, h3⟩
      exact ⟨h1 e' (by simp), h2, h3⟩

theorem SymTab.mem_insert {t : SymTab} {a : Word} {n : Label} {e : Word × Label}
    (h : e ∈ SymTab.insert t a n) : e = (a, n) ∨ e ∈ t := by
  induction t with
  | nil => exact .inl (by simpa [SymTab.insert] using h)
  | cons e' t ih =>
    obtain ⟨k, m⟩ := e'
    unfold SymTab.insert at h
    split at h
    · simpa using h
    · split at h
      · rcases List.mem_cons.1 h with h | h
        · exact .inl h
        · exact .inr (List.mem_cons_of_mem _ h)
      · rcases List.mem_cons.1 h with rfl | h
        · exact .inr (by simp)
        · exact (ih h).imp_right (List.mem_cons_of_mem _)

/-- The host's insertion keeps the canonical form. -/
theorem SymTab.insert_wf (t : SymTab) (a : Word) (n : Label) (h : SymTab.wf t = true) :
    SymTab.wf (SymTab.insert t a n) = true := by
  induction t with
  | nil => rfl
  | cons e t ih =>
    obtain ⟨k, m⟩ := e
    obtain ⟨h1, h2⟩ := (SymTab.wf_cons _ _).1 h
    unfold SymTab.insert
    split
    · refine (SymTab.wf_cons _ _).2 ⟨?_, h⟩
      rintro x (_ | ⟨_, hx⟩)
      · assumption
      · exact BitVec.lt_trans ‹a < k› (h1 x hx)
    · split
      · subst a; exact (SymTab.wf_cons _ _).2 ⟨h1, h2⟩
      · refine (SymTab.wf_cons _ _).2 ⟨fun x hx => ?_, ih h2⟩
        rcases SymTab.mem_insert hx with rfl | hx
        · have h3 : ¬ a < k := ‹_›
          have h4 : a ≠ k := ‹_›
          exact (by bv_omega : k < a)
        · exact h1 x hx

/-- The host's removal keeps the canonical form. -/
theorem SymTab.erase_wf (t : SymTab) (a : Word) (h : SymTab.wf t = true) : SymTab.wf (SymTab.erase t a) = true := by
  induction t with
  | nil => rfl
  | cons e t ih =>
    obtain ⟨h1, h2⟩ := (SymTab.wf_cons _ _).1 h
    unfold SymTab.erase at *
    rw [List.filter_cons]
    split
    · exact (SymTab.wf_cons _ _).2 ⟨fun x hx => h1 x (List.mem_filter.1 hx).1, ih h2⟩
    · exact ih h2

theorem SymTab.find_erase (t : SymTab) (a b : Word) :
    SymTab.find (SymTab.erase t a) b = if a = b then none else SymTab.find t b := by
  induction t with
  | nil => simp [SymTab.erase]
  | cons e t ih =>
    obtain ⟨k, m⟩ := e
    unfold SymTab.erase at *
    rw [List.filter_cons]
    by_cases hk : k = a
    · subst k
      by_cases h : a = b
      · simpa [h] using ih
      · simp [ih, h, SymTab.find_cons]
    · by_cases h : k = b
      · subst k; simp [SymTab.find_cons, hk, Ne.symm hk]
      · simp [hk, SymTab.find_cons, h, ih]

end Sys2Proof.Machine
end

