-- ==== Sys2Proof/Machine/Flags.lean ====
section
/-! DEFINITION. The block has no flags and no condition codes (10_state.md R33), and no rule of the spec writes one: this
file defines nothing. -/
end

