-- ==== Sys2Proof/Tests/Slice0.lean ====
section
/-! SUPPORT. The model's own tests: the well-formedness checks, decoding by words written out bit by bit, one transaction
per instruction with the text spec/95_test_vectors.md gives, and for each statement with hypotheses a witness that meets
them. Expected results come from the spec. -/

namespace Sys2Proof.Tests

open Sys2Proof.Machine Sys2Proof.Stated

/-- A state with these inputs placed and nothing emitted yet. -/
def place (w a : Word) (names pseudo : Bool) (symbols : SymTab) : State :=
  State.reset.supply ⟨w, a, names, pseudo, symbols⟩

/-- The line one step emits. -/
def line (s : State) : Option String :=
  match step s with
  | .next t => t.text
  | _ => none

/-- The symbol table of the spec's shared context (95_test_vectors.md section 4). -/
def shared : SymTab :=
  [(0x00400010, "loop"), (0x00400020, "self"), (0x00400024, "next"), (0x00400038, "done"), (0x00400060, "func"),
   (0x00400120, "far")]

/-! ### WellFormed refuses what no word decodes to -/

theorem test_wf_refuses_sll_zero : (Instr.sll 0 0 0 0).wellFormed true = false := by decide
theorem test_wf_keeps_sll_rs : (Instr.sll 31 0 0 0).wellFormed true = true := by decide
theorem test_wf_refuses_add_rt_zero : (Instr.add 4 0 2 0).wellFormed true = false := by decide
theorem test_wf_refuses_jalr_rd_31 : (Instr.jalr 25 0 31 0).wellFormed true = false := by decide
theorem test_wf_refuses_bgezal_rs_zero : (Instr.bgezal 0 15).wellFormed true = false := by decide
theorem test_wf_refuses_beq_zero_zero : (Instr.beq 0 0 3).wellFormed true = false := by decide
theorem test_wf_refuses_nop_off : Instr.nop.wellFormed false = false := by decide
theorem test_wf_refuses_move_off : (Instr.move 4 2 0).wellFormed false = false := by decide
theorem test_wf_refuses_jalrOneOperand_off : (Instr.jalrOneOperand 25 0 0).wellFormed false = false := by decide
theorem test_wf_refuses_bal_off : (Instr.bal 15).wellFormed false = false := by decide
theorem test_wf_refuses_b_off : (Instr.b 3).wellFormed false = false := by decide

/-! ### Decoding, every constructor, from the formats and maps of 30_encoding.md R60 to R72 and 40_datapath.md R130 -/

theorem test_decode_sll :
    decode true (0b000000#6 ++ 0b00000#5 ++ 0b01001#5 ++ 0b01000#5 ++ 0b00100#5 ++ 0b000000#6) = .ok (.sll 0 9 8 4) := by decide
theorem test_decode_srl :
    decode true (0b000000#6 ++ 0b00000#5 ++ 0b01001#5 ++ 0b01000#5 ++ 0b11111#5 ++ 0b000010#6) = .ok (.srl 0 9 8 31) := by decide
theorem test_decode_sra :
    decode true (0b000000#6 ++ 0b00000#5 ++ 0b10000#5 ++ 0b10001#5 ++ 0b00001#5 ++ 0b000011#6) = .ok (.sra 0 16 17 1) := by decide
theorem test_decode_sllv :
    decode true (0b000000#6 ++ 0b01010#5 ++ 0b01001#5 ++ 0b01000#5 ++ 0b00000#5 ++ 0b000100#6) = .ok (.sllv 10 9 8 0) := by decide
theorem test_decode_srlv :
    decode true (0b000000#6 ++ 0b01010#5 ++ 0b01001#5 ++ 0b01000#5 ++ 0b00000#5 ++ 0b000110#6) = .ok (.srlv 10 9 8 0) := by decide
theorem test_decode_srav :
    decode true (0b000000#6 ++ 0b01010#5 ++ 0b01001#5 ++ 0b01000#5 ++ 0b00000#5 ++ 0b000111#6) = .ok (.srav 10 9 8 0) := by decide
theorem test_decode_jr :
    decode true (0b000000#6 ++ 0b11111#5 ++ 0b00000#5 ++ 0b11111#5 ++ 0b00000#5 ++ 0b001000#6) = .ok (.jr 31 0 31 0) := by decide
theorem test_decode_jalr :
    decode true (0b000000#6 ++ 0b11001#5 ++ 0b00000#5 ++ 0b10000#5 ++ 0b00000#5 ++ 0b001001#6) = .ok (.jalr 25 0 16 0) := by decide
theorem test_decode_syscall :
    decode true (0b000000#6 ++ 0b11111111111111111111#20 ++ 0b001100#6) = .ok (.syscall 0xFFFFF) := by decide
theorem test_decode_add :
    decode true (0b000000#6 ++ 0b00000#5 ++ 0b01000#5 ++ 0b01001#5 ++ 0b00000#5 ++ 0b100000#6) = .ok (.add 0 8 9 0) := by decide
theorem test_decode_addu :
    decode true (0b000000#6 ++ 0b00100#5 ++ 0b00000#5 ++ 0b00010#5 ++ 0b00000#5 ++ 0b100001#6) = .ok (.addu 4 0 2 0) := by decide
theorem test_decode_sub :
    decode true (0b000000#6 ++ 0b01001#5 ++ 0b01010#5 ++ 0b01000#5 ++ 0b00000#5 ++ 0b100010#6) = .ok (.sub 9 10 8 0) := by decide
theorem test_decode_subu :
    decode true (0b000000#6 ++ 0b11101#5 ++ 0b01000#5 ++ 0b11101#5 ++ 0b00000#5 ++ 0b100011#6) = .ok (.subu 29 8 29 0) := by decide
theorem test_decode_and :
    decode true (0b000000#6 ++ 0b01001#5 ++ 0b01010#5 ++ 0b01000#5 ++ 0b00000#5 ++ 0b100100#6) = .ok (.and 9 10 8 0) := by decide
theorem test_decode_or :
    decode true (0b000000#6 ++ 0b01001#5 ++ 0b00000#5 ++ 0b01000#5 ++ 0b00000#5 ++ 0b100101#6) = .ok (.or 9 0 8 0) := by decide
theorem test_decode_xor :
    decode true (0b000000#6 ++ 0b01001#5 ++ 0b01010#5 ++ 0b01000#5 ++ 0b00000#5 ++ 0b100110#6) = .ok (.xor 9 10 8 0) := by decide
theorem test_decode_nor :
    decode true (0b000000#6 ++ 0b01001#5 ++ 0b00000#5 ++ 0b01000#5 ++ 0b00000#5 ++ 0b100111#6) = .ok (.nor 9 0 8 0) := by decide
theorem test_decode_slt :
    decode true (0b000000#6 ++ 0b00100#5 ++ 0b00101#5 ++ 0b00010#5 ++ 0b00000#5 ++ 0b101010#6) = .ok (.slt 4 5 2 0) := by decide
theorem test_decode_sltu :
    decode true (0b000000#6 ++ 0b00000#5 ++ 0b00101#5 ++ 0b00010#5 ++ 0b00000#5 ++ 0b101011#6) = .ok (.sltu 0 5 2 0) := by decide
theorem test_decode_bltz :
    decode true (0b000001#6 ++ 0b00100#5 ++ 0b00000#5 ++ 0b1111111111111011#16) = .ok (.bltz 4 0xFFFB) := by decide
theorem test_decode_bgez :
    decode true (0b000001#6 ++ 0b00100#5 ++ 0b00001#5 ++ 0b0000000000000001#16) = .ok (.bgez 4 0x0001) := by decide
theorem test_decode_bltzal :
    decode true (0b000001#6 ++ 0b00000#5 ++ 0b10000#5 ++ 0b0000000000001111#16) = .ok (.bltzal 0 0x000F) := by decide
theorem test_decode_bgezal :
    decode true (0b000001#6 ++ 0b00100#5 ++ 0b10001#5 ++ 0b1111111111111111#16) = .ok (.bgezal 4 0xFFFF) := by decide
theorem test_decode_j :
    decode true (0b000010#6 ++ 0b00000000000000000000000000#26) = .ok (.j 0x0000000) := by decide
theorem test_decode_jal :
    decode true (0b000011#6 ++ 0b00000100000000000000011000#26) = .ok (.jal 0x0100018) := by decide
theorem test_decode_beq :
    decode true (0b000100#6 ++ 0b01101#5 ++ 0b00000#5 ++ 0b0000000000011010#16) = .ok (.beq 13 0 0x001A) := by decide
theorem test_decode_bne :
    decode true (0b000101#6 ++ 0b01000#5 ++ 0b00000#5 ++ 0b0000000000000101#16) = .ok (.bne 8 0 0x0005) := by decide
theorem test_decode_blez :
    decode true (0b000110#6 ++ 0b00100#5 ++ 0b00101#5 ++ 0b1111111111111111#16) = .ok (.blez 4 5 0xFFFF) := by decide
theorem test_decode_bgtz :
    decode true (0b000111#6 ++ 0b00100#5 ++ 0b00101#5 ++ 0b0000000000111111#16) = .ok (.bgtz 4 5 0x003F) := by decide
theorem test_decode_addi :
    decode true (0b001000#6 ++ 0b11101#5 ++ 0b11101#5 ++ 0b1111111111100000#16) = .ok (.addi 29 29 0xFFE0) := by decide
theorem test_decode_addiu :
    decode true (0b001001#6 ++ 0b00000#5 ++ 0b00010#5 ++ 0b1111111111111111#16) = .ok (.addiu 0 2 0xFFFF) := by decide
theorem test_decode_slti :
    decode true (0b001010#6 ++ 0b00100#5 ++ 0b00010#5 ++ 0b0000000000001010#16) = .ok (.slti 4 2 0x000A) := by decide
theorem test_decode_sltiu :
    decode true (0b001011#6 ++ 0b00100#5 ++ 0b00010#5 ++ 0b1111111111111111#16) = .ok (.sltiu 4 2 0xFFFF) := by decide
theorem test_decode_andi :
    decode true (0b001100#6 ++ 0b01001#5 ++ 0b01000#5 ++ 0b1111111100000000#16) = .ok (.andi 9 8 0xFF00) := by decide
theorem test_decode_ori :
    decode true (0b001101#6 ++ 0b00000#5 ++ 0b01000#5 ++ 0b0000000000000001#16) = .ok (.ori 0 8 0x0001) := by decide
theorem test_decode_xori :
    decode true (0b001110#6 ++ 0b01001#5 ++ 0b01000#5 ++ 0b1000000000000000#16) = .ok (.xori 9 8 0x8000) := by decide
theorem test_decode_lui :
    decode true (0b001111#6 ++ 0b00000#5 ++ 0b00001#5 ++ 0b1000000000000000#16) = .ok (.lui 0 1 0x8000) := by decide
theorem test_decode_cp0 :
    decode true (0b010000#6 ++ 0b00100000000110000000000000#26) = .ok (.cp0 0x0806000) := by decide
theorem test_decode_lb :
    decode true (0b100000#6 ++ 0b11101#5 ++ 0b01000#5 ++ 0b0000000000000011#16) = .ok (.lb 29 8 0x0003) := by decide
theorem test_decode_lh :
    decode true (0b100001#6 ++ 0b00100#5 ++ 0b01000#5 ++ 0b1111111111111110#16) = .ok (.lh 4 8 0xFFFE) := by decide
theorem test_decode_lwl :
    decode true (0b100010#6 ++ 0b00100#5 ++ 0b01000#5 ++ 0b0000000000000011#16) = .ok (.lwl 4 8 0x0003) := by decide
theorem test_decode_lw :
    decode true (0b100011#6 ++ 0b00000#5 ++ 0b01000#5 ++ 0b1000000000000000#16) = .ok (.lw 0 8 0x8000) := by decide
theorem test_decode_lbu :
    decode true (0b100100#6 ++ 0b00100#5 ++ 0b00010#5 ++ 0b0000000000000000#16) = .ok (.lbu 4 2 0x0000) := by decide
theorem test_decode_lhu :
    decode true (0b100101#6 ++ 0b00100#5 ++ 0b00010#5 ++ 0b0000000000000010#16) = .ok (.lhu 4 2 0x0002) := by decide
theorem test_decode_lwr :
    decode true (0b100110#6 ++ 0b00100#5 ++ 0b01000#5 ++ 0b0000000000000000#16) = .ok (.lwr 4 8 0x0000) := by decide
theorem test_decode_sb :
    decode true (0b101000#6 ++ 0b00101#5 ++ 0b00000#5 ++ 0b1111111111111111#16) = .ok (.sb 5 0 0xFFFF) := by decide
theorem test_decode_sh :
    decode true (0b101001#6 ++ 0b00101#5 ++ 0b01001#5 ++ 0b0000000000000110#16) = .ok (.sh 5 9 0x0006) := by decide
theorem test_decode_swl :
    decode true (0b101010#6 ++ 0b00100#5 ++ 0b01000#5 ++ 0b0000000000000011#16) = .ok (.swl 4 8 0x0003) := by decide
theorem test_decode_sw :
    decode true (0b101011#6 ++ 0b11101#5 ++ 0b11111#5 ++ 0b0000000000011100#16) = .ok (.sw 29 31 0x001C) := by decide
theorem test_decode_swr :
    decode true (0b101110#6 ++ 0b00100#5 ++ 0b01000#5 ++ 0b0000000000000000#16) = .ok (.swr 4 8 0x0000) := by decide
theorem test_decode_nop :
    decode true (0b000000#6 ++ 0b00000#5 ++ 0b00000#5 ++ 0b00000#5 ++ 0b00000#5 ++ 0b000000#6) = .ok (.nop) := by decide
theorem test_decode_move :
    decode true (0b000000#6 ++ 0b00000#5 ++ 0b00000#5 ++ 0b00000#5 ++ 0b11111#5 ++ 0b100000#6) = .ok (.move 0 0 31) := by decide
theorem test_decode_jalrOneOperand :
    decode true (0b000000#6 ++ 0b11001#5 ++ 0b00000#5 ++ 0b11111#5 ++ 0b00000#5 ++ 0b001001#6) = .ok (.jalrOneOperand 25 0 0) := by decide
theorem test_decode_bal :
    decode true (0b000001#6 ++ 0b00000#5 ++ 0b10001#5 ++ 0b0000000000001111#16) = .ok (.bal 0x000F) := by decide
theorem test_decode_b :
    decode true (0b000100#6 ++ 0b00000#5 ++ 0b00000#5 ++ 0b1111111111111110#16) = .ok (.b 0xFFFE) := by decide

/-- With the option off the pseudo words decode to their base rows (R133). -/
theorem test_decode_pseudo_off :
    decode false 0 = .ok (.sll 0 0 0 0) ∧ decode false 0x00801020 = .ok (.add 4 0 2 0) ∧
    decode false 0x0320F809 = .ok (.jalr 25 0 31 0) ∧ decode false 0x0411000F = .ok (.bgezal 0 15) ∧
    decode false 0x1000FFFF = .ok (.beq 0 0 0xFFFF) := by decide

/-- Unsupported words are rejected by the name of their cause (V10, R271). -/
theorem test_decode_unsupported :
    decode true 0x44000000 = .error .primaryOpcode ∧ decode true 0xB0000000 = .error .primaryOpcode ∧
    decode true 0x0000000D = .error .specialFunct ∧ decode true 0x00850018 = .error .specialFunct ∧
    decode true 0x04020000 = .error .regimmSelector ∧ decode true 0x049FFFFF = .error .regimmSelector := by decide

/-- The host's view: the pseudo row of a word takes precedence, and words beyond the table are none. -/
theorem test_decodeTableWord :
    decodeTableWord 32 0x24A50001 = some (.addiu 5 5 1) ∧ decodeTableWord 32 0 = some .nop ∧
    decodeTableWord 32 0x0000003F = none := by decide

/-- The word that the host places is the word the next step decodes. -/
theorem test_withFetchWord : line (State.reset.withFetchWord 32 0x24A50001) = some "ADDIU $a1, $a1, 1" := by decide

/-! ### One transaction per instruction: the text of 95_test_vectors.md section 4 -/

theorem test_step_sll : line (place 0x00094100 0x0 true true []) = some "SLL $t0, $t1, $a0" := by decide -- V1
theorem test_step_srl : line (place 0x000947C2 0x0 true true []) = some "SRL $t0, $t1, $ra" := by decide -- V1
theorem test_step_sra : line (place 0x00108843 0x0 true true []) = some "SRA $s1, $s0, $at" := by decide -- V1
theorem test_step_sllv : line (place 0x01494004 0x0 true true []) = some "SLLV $t0, $t1, $t2" := by decide -- V1
theorem test_step_srlv : line (place 0x01494006 0x0 true true []) = some "SRLV $t0, $t1, $t2" := by decide -- V1
theorem test_step_srav : line (place 0x01494007 0x0 true true []) = some "SRAV $t0, $t1, $t2" := by decide -- V1
theorem test_step_jr : line (place 0x03E0F808 0x0 true true []) = some "JR $ra" := by decide -- V2
theorem test_step_jalr : line (place 0x03208009 0x0 true true []) = some "JALR $s0, $t9" := by decide -- V2
theorem test_step_syscall : line (place 0x03FFFFCC 0x0 true true []) = some "SYSCALL" := by decide -- V2
theorem test_step_add : line (place 0x00084820 0x0 true true []) = some "ADD $t1, $zero, $t0" := by decide -- V3
theorem test_step_addu : line (place 0x00801021 0x0 true true []) = some "ADDU $v0, $a0, $zero" := by decide -- V3
theorem test_step_sub : line (place 0x012A4022 0x0 true true []) = some "SUB $t0, $t1, $t2" := by decide -- V3
theorem test_step_subu : line (place 0x03A8E823 0x0 true true []) = some "SUBU $sp, $sp, $t0" := by decide -- V3
theorem test_step_and : line (place 0x012A4024 0x0 true true []) = some "AND $t0, $t1, $t2" := by decide -- V3
theorem test_step_or : line (place 0x01204025 0x0 true true []) = some "OR $t0, $t1, $zero" := by decide -- V3
theorem test_step_xor : line (place 0x012A4026 0x0 true true []) = some "XOR $t0, $t1, $t2" := by decide -- V3
theorem test_step_nor : line (place 0x01204027 0x0 true true []) = some "NOR $t0, $t1, $zero" := by decide -- V3
theorem test_step_slt : line (place 0x0085102A 0x0 true true []) = some "SLT $v0, $a0, $a1" := by decide -- V3
theorem test_step_sltu : line (place 0x0005102B 0x0 true true []) = some "SLTU $v0, $zero, $a1" := by decide -- V3
theorem test_step_bltz : line (place 0x0480FFFB 0x400020 true true shared) = some "BLTZ $a0, -5 <loop>" := by decide -- V4
theorem test_step_bgez : line (place 0x04810001 0x400020 true true shared) = some "BGEZ $a0, 1" := by decide -- V4
theorem test_step_bltzal : line (place 0x0410000F 0x400020 true true shared) = some "BLTZAL $zero, 15 <func>" := by decide -- V4
theorem test_step_bgezal : line (place 0x0491FFFF 0x400020 true true shared) = some "BGEZAL $a0, -1 <self>" := by decide -- V4
theorem test_step_j : line (place 0x08000000 0xFFFFFFC true true [(0, "seg0"), (0x10000000, "seg1")]) = some "J 0 <seg0>" := by decide -- V5
theorem test_step_jal : line (place 0x0C100018 0x400020 true true shared) = some "JAL 1048600 <func>" := by decide -- V5
theorem test_step_beq : line (place 0x11A0001A 0x9C true true [(0x108, "decode_if")]) = some "BEQ $t5, $zero, 26 <decode_if>" := by decide -- V6
theorem test_step_bne : line (place 0x15000005 0x400020 true true shared) = some "BNE $t0, $zero, 5 <done>" := by decide -- V6
theorem test_step_blez : line (place 0x1885FFFF 0x400020 true true shared) = some "BLEZ $a0, -1 <self>" := by decide -- V6
theorem test_step_bgtz : line (place 0x1C85003F 0x400020 true true shared) = some "BGTZ $a0, 63 <far>" := by decide -- V6
theorem test_step_addi : line (place 0x23BDFFE0 0x0 true true []) = some "ADDI $sp, $sp, -32" := by decide -- V7
theorem test_step_addiu : line (place 0x2402FFFF 0x0 true true []) = some "ADDIU $v0, $zero, -1" := by decide -- V7
theorem test_step_slti : line (place 0x2882000A 0x0 true true []) = some "SLTI $v0, $a0, 10" := by decide -- V7
theorem test_step_sltiu : line (place 0x2C82FFFF 0x0 true true []) = some "SLTIU $v0, $a0, -1" := by decide -- V7
theorem test_step_andi : line (place 0x3128FF00 0x0 true true []) = some "ANDI $t0, $t1, -256" := by decide -- V7
theorem test_step_ori : line (place 0x34080001 0x0 true true []) = some "ORI $t0, $zero, 1" := by decide -- V7
theorem test_step_xori : line (place 0x39288000 0x0 true true []) = some "XORI $t0, $t1, -32768" := by decide -- V7
theorem test_step_lui : line (place 0x3C018000 0x0 true true []) = some "LUI $at, -32768" := by decide -- V7
theorem test_step_cp0 : line (place 0x40806000 0x0 true true []) = some "CP0" := by decide -- V8
theorem test_step_lb : line (place 0x83A80003 0x0 true true []) = some "LB $t0, 3($sp)" := by decide -- V9
theorem test_step_lh : line (place 0x8488FFFE 0x0 true true []) = some "LH $t0, -2($a0)" := by decide -- V9
theorem test_step_lwl : line (place 0x88880003 0x0 true true []) = some "LWL $t0, 3($a0)" := by decide -- V9
theorem test_step_lw : line (place 0x8C088000 0x0 true true []) = some "LW $t0, -32768($zero)" := by decide -- V9
theorem test_step_lbu : line (place 0x90820000 0x0 true true []) = some "LBU $v0, 0($a0)" := by decide -- V9
theorem test_step_lhu : line (place 0x94820002 0x0 true true []) = some "LHU $v0, 2($a0)" := by decide -- V9
theorem test_step_lwr : line (place 0x98880000 0x0 true true []) = some "LWR $t0, 0($a0)" := by decide -- V9
theorem test_step_sb : line (place 0xA0A0FFFF 0x0 true true []) = some "SB $zero, -1($a1)" := by decide -- V9
theorem test_step_sh : line (place 0xA4A90006 0x0 true true []) = some "SH $t1, 6($a1)" := by decide -- V9
theorem test_step_swl : line (place 0xA8880003 0x0 true true []) = some "SWL $t0, 3($a0)" := by decide -- V9
theorem test_step_sw : line (place 0xAFBF001C 0x0 true true []) = some "SW $ra, 28($sp)" := by decide -- V9
theorem test_step_swr : line (place 0xB8880000 0x0 true true []) = some "SWR $t0, 0($a0)" := by decide -- V9
theorem test_step_nop : line (place 0x00000000 0xFFFFFFFC true true []) = some "NOP" := by decide -- V1
theorem test_step_move : line (place 0x000007E0 0x0 true true []) = some "MOVE $zero, $zero" := by decide -- V3
theorem test_step_jalrOneOperand : line (place 0x0320F809 0x0 true true []) = some "JALR $t9" := by decide -- V2
theorem test_step_bal : line (place 0x0411000F 0x400020 true true shared) = some "BAL 15 <func>" := by decide -- V4
theorem test_step_b : line (place 0x1000FFFE 0x0 true true [(0xFFFFFFFC, "below")]) = some "B -2 <below>" := by decide -- V6

/-- The numeric register spelling, an unsupported word and an empty label (V4, V6, V10). -/
theorem test_step_numeric : line (place 0x0491FFFF 0x400020 false true shared) = some "BGEZAL $4, -1 <self>" := by decide
theorem test_step_unsupported : line (place 0x0000003F 0 false false []) = some "unsupported instruction" := by decide
theorem test_step_empty_label : line (place 0x10000000 0 true true [(4, "")]) = some "B 0 <>" := by decide
theorem test_step_misaligned : line (place 0x10000000 0x00400001 true true [(0x00400005, "odd")]) = some "B 0 <odd>" := by
  decide

/-- The field cuts of 95_test_vectors.md section 2. -/
theorem test_extract :
    extract 0x000947C2 = ⟨0x00, 0, 9, 8, 31, 0x02, 0x47C2, 0x00947C2⟩ ∧
    extract 0x8488FFFE = ⟨0x21, 4, 8, 31, 31, 0x3E, 0xFFFE, 0x088FFFE⟩ := by decide

/-- The target arithmetic of 95_test_vectors.md section 3. -/
theorem test_targets :
    branchTarget 0x0000009C 26 = 0x00000108 ∧ branchTarget 0 0x8000 = 0xFFFE0004 ∧
    branchTarget 0x7FFFFFFC 0x7FFF = 0x8001FFFC ∧ jumpTarget 0x0FFFFFFC 0 = 0 ∧
    jumpTarget 0xF0000000 0x3FFFFFF = 0xFFFFFFFC ∧ jumpTarget 3 1 = 4 := by decide

/-! ### Witnesses: the hypotheses of the statements can be met -/

/-- The spec's BEQ example (E5), the table held. -/
def held : State := place 0x11A0001A 0x9C true true [(0x108, "decode_if")]

/-- The same while the caller changes the table (R50). -/
def changing : State := { held with symbolsDuring := some [(0x108, "renamed")] }

/-- An unsupported word (V10). -/
def unsupported : State := place 0x0000000D 0x9C true true []

theorem steps_two (s s' : State) : ∃ t t', step s = .next t ∧ step s' = .next t' := by
  obtain ⟨r, h, _⟩ := step_emits s
  obtain ⟨r', h', _⟩ := step_emits s'
  exact ⟨_, _, h, h'⟩

theorem steps (s : State) : ∃ t, step s = .next t := by
  obtain ⟨r, h, _⟩ := step_emits s
  exact ⟨_, h⟩

/-- A state that meets the invariant with nothing emitted, and one with a line emitted. -/
theorem witness_StepKeepsInvariant : changing.Inv ∧ ∃ t, step changing = .next t :=
  ⟨⟨by decide, fun _ h => (by cases h; decide), .inl ⟨rfl, rfl, rfl⟩⟩, steps _⟩
theorem witness_RunsNeverStopAndKeepInvariant : ({ held with
    record := some (.insn .NOP []), text := some "NOP" } : State).Inv :=
  ⟨by decide, fun _ h => (by cases h), .inr ⟨.insn .NOP [], true, rfl, by decide, rfl, rfl⟩⟩
theorem witness_StepRunsTheDecodedInstruction :
    decode held.pseudoInstructions held.word = .ok (.beq 13 0 26) ∧ held.symbolsDuring = none ∧
    decode changing.pseudoInstructions changing.word = .ok (.beq 13 0 26) ∧
    changing.symbolsDuring = some [(0x108, "renamed")] := ⟨rfl, rfl, rfl, rfl⟩
theorem witness_UnsupportedWordEndsInSentinel :
    decode false unsupported.word = .error .specialFunct ∧
    decode true (place 0x44000000 0 true true []).word = .error .primaryOpcode ∧
    decode true (place 0x04020000 0 true true []).word = .error .regimmSelector := by decide
/-- Each dash at the ends of its ranges, and words just outside. -/
theorem witness_ExactlyTheDashesAreUnsupported :
    dashOpcode 0x44000000 ∧ dashOpcode 0x7C000000 ∧ dashOpcode 0xBC000000 ∧ dashFunct 0x0000000D ∧ dashFunct 0x0000001F ∧
    dashFunct 0x0000002C ∧ dashSelector 0x04020000 ∧ dashSelector 0x040F0000 ∧ dashSelector 0x04120000 ∧
    ¬(dashOpcode 0xB8000000 ∨ dashFunct 0xB8000000 ∨ dashSelector 0xB8000000) := by
  simp [dashOpcode, dashFunct, dashSelector, opcodeOf, functOf, rtOf]
theorem witness_DecoderNamesTheCause :
    decode unsupported.pseudoInstructions unsupported.word = .error .specialFunct ∧ ∃ t, step unsupported = .next t :=
  ⟨by decide, steps _⟩
theorem witness_SentinelIsDistinguishable :
    (∃ t, step held = .next t ∧ t.record ≠ some .unsupported) ∧ ∃ t, step unsupported = .next t ∧ t.record = some .unsupported :=
  ⟨⟨_, rfl, by decide⟩, ⟨_, rfl, by decide⟩⟩
theorem witness_DecodeInvertsEncode :
    (Instr.beq 13 0 26).wellFormed true = true ∧ (Instr.nop).wellFormed true = true ∧
    (Instr.sll 0 0 0 0).wellFormed false = true := by decide
theorem witness_EncodeInvertsDecode : decode true 0x03FFFFCC = .ok (.syscall 0xFFFFF) := by decide
theorem witness_BaseRowsDoNotOverlap :
    specialRow .SLL 0x00000000 [.rd, .rt, .shamt] ∈ baseRows ∧
    (specialRow .SLL 0x00000000 [.rd, .rt, .shamt]).matchesWord 0x00094100 = true := by decide
/-- The two SLL clauses, at the two words that differ in one bit. -/
theorem witness_ConstantShiftsRender :
    ¬((place 0x03E00000 0 true true []).pseudoInstructions = true ∧
      (0#6 ++ 31#5 ++ 0#5 ++ 0#5 ++ 0#5 ++ 0x00#6 : Word) = 0) ∧
    (place 0x03E00000 0 true true []).word = 0#6 ++ 31#5 ++ 0#5 ++ 0#5 ++ 0#5 ++ 0x00#6 ∧
    (place 0 0 true true []).pseudoInstructions = true ∧
    (0#6 ++ 0#5 ++ 0#5 ++ 0#5 ++ 0#5 ++ 0x00#6 : Word) = 0 := by decide
theorem witness_NopRenders :
    (place 0 0 true true []).pseudoInstructions = true ∧ (place 0 0 true false []).pseudoInstructions = false ∧
    (place 0 0 true false []).word = 0 := by decide
theorem witness_VariableShiftsRender :
    (place 0x01494004 0 true true []).word = 0#6 ++ 10#5 ++ 9#5 ++ 8#5 ++ 0#5 ++ 0x04#6 := by decide
theorem witness_JumpRegistersRender :
    (31 : RegIx) = 31 ∧ (place 0x0320F809 0 true true []).word = 0#6 ++ 25#5 ++ 0#5 ++ 31#5 ++ 0#5 ++ 0x09#6 := by decide
theorem witness_SyscallAndCp0Render :
    (place 0x03FFFFCC 0 true true []).word = 0#6 ++ 0xFFFFF#20 ++ 0x0C#6 ∧
    (place 0x40806000 0 true true []).word = 0x10#6 ++ 0x0806000#26 := by decide
theorem witness_AddRendersAddOrMove :
    ¬((place 0x00084820 0 true true []).pseudoInstructions = true ∧ (8 : RegIx) = 0) ∧
    ((place 0x00801020 0 true true []).pseudoInstructions = true ∧ (0 : RegIx) = 0) ∧
    ((place 0x00801020 0 true false []).pseudoInstructions = false ∧ (0 : RegIx) = 0) ∧
    (place 0x00801020 0 true true []).word = 0#6 ++ 4#5 ++ 0#5 ++ 2#5 ++ 0#5 ++ 0x20#6 := by decide
theorem witness_RegisterAluRenders :
    (place 0x012A4021 0 true true []).word = 0#6 ++ 9#5 ++ 10#5 ++ 8#5 ++ 0#5 ++ 0x21#6 := by decide
theorem witness_RegimmBranchesRender : (place 0x0480FFFB 0 true true []).word = 0x01#6 ++ 4#5 ++ 0x00#5 ++ 0xFFFB#16 := by
  decide
theorem witness_BgezalRendersBgezalOrBal :
    (0 : RegIx) = 0 ∧ (place 0x0411000F 0 true true []).word = 0x01#6 ++ 0#5 ++ 0x11#5 ++ 0x000F#16 := by decide
theorem witness_JumpsRender : (place 0x08100004 0 true true []).word = 0x02#6 ++ 0x100004#26 := by decide
theorem witness_BeqRendersBeqOrB :
    (0 : RegIx) = 0 ∧ (place 0x1000FFFF 0 true true []).word = 0x04#6 ++ 0#5 ++ 0#5 ++ 0xFFFF#16 := by decide
theorem witness_ComparisonBranchesRender :
    (place 0x1C85003F 0 true true []).word = 0x07#6 ++ 4#5 ++ 5#5 ++ 0x003F#16 := by decide
theorem witness_ImmediateAluRenders : (place 0x3C018000 0 true true []).word = 0x0F#6 ++ 0#5 ++ 1#5 ++ 0x8000#16 := by
  decide
theorem witness_LoadsRender : (place 0x83A80003 0 true true []).word = 0x20#6 ++ 29#5 ++ 8#5 ++ 0x0003#16 := by decide
theorem witness_StoresRender : (place 0xB8880000 0 true true []).word = 0x2E#6 ++ 4#5 ++ 8#5 ++ 0x0000#16 := by decide
/-- Every clause, with the words that differ from the next clause's in one field. -/
theorem witness_ShiftAndJumpWordsRender :
    ¬((place 0x03E00000 0 true true []).pseudoInstructions = true ∧
      (0#6 ++ 31#5 ++ 0#5 ++ 0#5 ++ 0#5 ++ 0x00#6 : Word) = 0) ∧
    (place 0x03E00000 0 true true []).word = 0#6 ++ 31#5 ++ 0#5 ++ 0#5 ++ 0#5 ++ 0x00#6 ∧
    (place 0 0 true true []).pseudoInstructions = true ∧ (place 0 0 true true []).word = 0 ∧
    ¬((place 0x0320F009 0 true true []).pseudoInstructions = true ∧ (30 : RegIx) = 31) ∧
    (place 0x0320F009 0 true true []).word = 0#6 ++ 25#5 ++ 0#5 ++ 30#5 ++ 0#5 ++ 0x09#6 ∧
    (place 0x0320F809 0 true true []).pseudoInstructions = true ∧
    (place 0x0320F809 0 true true []).word = 0#6 ++ 25#5 ++ 0#5 ++ 31#5 ++ 0#5 ++ 0x09#6 := by decide
theorem witness_AddAndBranchWordsRender :
    ¬((place 0x00811020 0 true true []).pseudoInstructions = true ∧ (1 : RegIx) = 0) ∧
    (place 0x00811020 0 true true []).word = 0#6 ++ 4#5 ++ 1#5 ++ 2#5 ++ 0#5 ++ 0x20#6 ∧
    (place 0x00801020 0 true true []).pseudoInstructions = true ∧
    (place 0x00801020 0 true true []).word = 0#6 ++ 4#5 ++ 0#5 ++ 2#5 ++ 0#5 ++ 0x20#6 ∧
    ¬((place 0x0411000F 0 true false []).pseudoInstructions = true ∧ (0 : RegIx) = 0) ∧
    (place 0x0411000F 0 true true []).pseudoInstructions = true ∧
    (place 0x0411000F 0 true true []).word = 0x01#6 ++ 0#5 ++ 0x11#5 ++ 0x000F#16 ∧
    ¬((place 0x1001FFFF 0 true true []).pseudoInstructions = true ∧ (0 : RegIx) = 0 ∧ (1 : RegIx) = 0) ∧
    (place 0x1001FFFF 0 true true []).word = 0x04#6 ++ 0#5 ++ 1#5 ++ 0xFFFF#16 ∧
    (place 0x1000FFFF 0 true true []).pseudoInstructions = true ∧
    (place 0x1000FFFF 0 true true []).word = 0x04#6 ++ 0#5 ++ 0#5 ++ 0xFFFF#16 := by decide
theorem witness_RegisterMultiplexerSpells : regText true 31 = regText true 31 := rfl
theorem witness_TargetArithmeticLaws : simm 0xFFFF = -1 ∧ simm 0 = 0 ∧ simm 0xFFFE = -2 := by decide
theorem witness_UnsignedDecimalIsShortest :
    (decU 0).toList = '0' :: [] ∧ ['0', '7'] ≠ [] ∧ allDigits ['0', '7'] ∧ digitsValue ['0', '7'] = 7 := by
  refine ⟨by decide, by decide, ?_, by decide⟩
  simp [allDigits]
theorem witness_SignedDecimalSpells : decS (-7) = decS (-7) := rfl
theorem witness_LineTellsItsMnemonic :
    lineText true (.insn .B [.brTgt 3 0 none]) = lineText false (.insn .B [.brTgt 3 4 none]) := by decide
/-- A key the table has, and a key it has not. -/
theorem witness_LookupIsExactKeyEquality :
    held.symbolsDuring = none ∧ SymTab.wf held.symbols = true ∧ ((0x108 : Word), "decode_if") ∈ held.symbols ∧
    held.lookup 0x108 = some "decode_if" ∧ ∀ e ∈ held.symbols, e.1 ≠ (0x109 : Word) :=
  ⟨rfl, by decide, by decide, by rw [State.lookup_of_held _ rfl]; decide, by decide⟩
theorem witness_ChangedTableGivesOldOrNewAnswer :
    changing.symbolsDuring = some [(0x108, "renamed")] ∧ ∃ t, step changing = .next t := ⟨rfl, steps _⟩
/-- A branch, a jump and a word that is neither; the clauses exclude each other by the opcode. -/
theorem witness_OnlyTargetsAreQueried :
    isBranch 0x11A0001A ∧ isBranch 0x04110000 ∧ isJump 0x0BFFFFFF ∧ ¬isBranch 0x04020000 ∧ ¬isJump 0x04020000 ∧
    ∃ t, step held = .next t := by
  refine ⟨?_, ?_, ?_, ?_, ?_, steps _⟩ <;> simp [isBranch, isJump, opcodeOf, rtOf]
theorem witness_AddressAndTableReachOnlyTargets :
    ¬isBranch (place 0x24A50001 0 true true []).word ∧ ¬isJump (place 0x24A50001 0 true true []).word ∧
    (place 0x24A50001 0 true true []).word = (place 0x24A50001 4 true true shared).word ∧
    (place 0x24A50001 0 true true []).useRegNames = (place 0x24A50001 4 true true shared).useRegNames ∧
    (place 0x24A50001 0 true true []).pseudoInstructions = (place 0x24A50001 4 true true shared).pseudoInstructions ∧
    ∃ t t', step (place 0x24A50001 0 true true []) = .next t ∧ step (place 0x24A50001 4 true true shared) = .next t' := by
  refine ⟨?_, ?_, rfl, rfl, rfl, steps_two _ _⟩ <;> simp [isBranch, isJump, opcodeOf, rtOf, place]
theorem witness_RegNamesChangeSpellingOnly :
    (∃ t t', step held = .next t ∧ step { held with useRegNames := !held.useRegNames } = .next t') ∧
    ∀ o ∈ [Operand.brTgt 3 0 none], (∀ i, o ≠ .reg i) ∧ (∀ i, o ≠ .shamt i) ∧ ∀ off i, o ≠ .mem off i :=
  ⟨steps_two _ _, by simp⟩
theorem witness_PseudoOffRendersInFull :
    (place 0x00801020 0 true false []).pseudoInstructions = false ∧ ∃ t mn ops,
      step (place 0x00801020 0 true false []) = .next t ∧ t.record = some (.insn mn ops) := ⟨rfl, _, _, _, rfl, rfl⟩
/-- Each pattern's own word, and a word of none. -/
theorem witness_PseudoOnChangesFivePatternsOnly :
    (∀ w ∈ [(0 : Word), 0x00801020, 0x0320F809, 0x0411000F, 0x1000FFFF, 0x24A50001],
      (place w 0 true false []).pseudoInstructions = false) ∧
    (0x00801020 : Word) &&& 0xFC1F003F = 0x00000020 ∧ (0x0320F809 : Word) &&& 0xFC00F83F = 0x0000F809 ∧
    (0x0411000F : Word) &&& 0xFFFF0000 = 0x04110000 ∧ (0x1000FFFF : Word) &&& 0xFFFF0000 = 0x10000000 ∧
    ∃ t t', step (place 0x00801020 0 true false []) = .next t ∧
      step { place 0x00801020 0 true false [] with pseudoInstructions := true } = .next t' := by
  exact ⟨fun _ _ => rfl, by decide, by decide, by decide, by decide, steps_two _ _⟩
theorem witness_DontCareBitsHaveNoEffect :
    (0x03E00008 : Word) &&& ~~~(dontCare 0x03E00008) = 0x03E0F808 &&& ~~~(dontCare 0x03E00008) ∧
    (0x03E00008 : Word) ≠ 0 ∧ (0x03E0F808 : Word) ≠ 0 ∧ ∃ t t',
      step (place 0x03E00008 0 true true []) = .next t ∧
      step { place 0x03E00008 0 true true [] with word := 0x03E0F808 } = .next t' := by
  refine ⟨by decide, by decide, by decide, steps_two _ _⟩
/-- A table held and a table under change that answer alike. -/
theorem witness_EqualInputsGiveEqualOutputs :
    (∀ a, (place 0x11A0001A 0x9C true true []).lookup a = ({ place 0x11A0001A 0x9C true true [] with
      symbolsDuring := some [], tableChanges := 3, text := some "NOP" } : State).lookup a) ∧
    ∃ t t', step (place 0x11A0001A 0x9C true true []) = .next t ∧ step { place 0x11A0001A 0x9C true true [] with
      symbolsDuring := some [], tableChanges := 3, text := some "NOP" } = .next t' := by
  refine ⟨fun a => ?_, steps_two _ _⟩
  simp [State.lookup, place, SymTab.find]
theorem witness_TransactionIsIdempotent : held.symbolsDuring = none ∧ ∃ t, step held = .next t := ⟨rfl, steps _⟩
/-- A line break, in no label of the table or of its change. -/
theorem witness_BlockMakesOnlyPrintableAscii :
    ¬(32 ≤ '\n'.toNat ∧ '\n'.toNat ≤ 126) ∧ (∀ e ∈ held.symbols, '\n' ∉ e.2.toList) ∧
    (∀ new, held.symbolsDuring = some new → ∀ e ∈ new, '\n' ∉ e.2.toList) ∧
    ∃ t txt, step held = .next t ∧ t.text = some txt :=
  ⟨by decide, by decide, fun _ h => (by cases h), _, _, rfl, rfl⟩
theorem witness_ListingAddressesAreConsecutive : ([0x24080000, 0x2409000A] : List Word)[1]? = some 0x2409000A := rfl

end Sys2Proof.Tests
end

section
/-! PROOF. The block makes printable ASCII only (00_scope.md R12, 10_state.md R23): what the block itself writes is printable,
a label in the text is an answer of the `Lookup` port, and that answer is a label of the table or of its change. -/

namespace Sys2Proof.Machine

/-- Printable ASCII: space to tilde (R12). -/
abbrev Printable (c : Char) : Prop := 32 ≤ c.toNat ∧ c.toNat ≤ 126

/-! ### The labels a record holds -/

/-- The label of an operand, if its target has one (R112). -/
def Operand.label? : Operand → Option Label
  | .brTgt _ _ label => label
  | .jTgt _ _ label => label
  | _ => none

/-- The labels of a record's operands, in order. -/
def Record.labels : Record → List Label
  | .unsupported => []
  | .insn _ ops => ops.filterMap Operand.label?

/-! ### What the formatter writes -/

theorem digits_printable (fuel n : Nat) : ∀ d ∈ digits fuel n, Printable d := by
  have digit : ∀ k < 10, Printable (digitChar k) := by decide
  induction fuel generalizing n with
  | zero => simpa [digits] using digit _ (Nat.mod_lt n (by decide))
  | succ fuel ih =>
    unfold digits
    split
    · simpa using digit n ‹_›
    · intro d hd
      rcases List.mem_append.mp hd with hd | hd
      · exact ih _ d hd
      · rw [List.mem_singleton.mp hd]
        exact digit _ (Nat.mod_lt n (by decide))

theorem pRegNames_printable : ∀ name ∈ pRegNames, ∀ d ∈ name.toList, Printable d := by
  simp [pRegNames, Printable]

theorem mnemonicText_printable (mn : Mnemonic) : ∀ d ∈ (mnemonicText mn).toList, Printable d := by
  cases mn <;> simp [mnemonicText, Printable]

theorem not_mem_append {c : Char} {a b : String} (ha : c ∉ a.toList) (hb : c ∉ b.toList) : c ∉ (a ++ b).toList := by
  simpa using ⟨ha, hb⟩

section NotPrintable
variable {c : Char} (hc : ¬Printable c)
include hc

theorem not_mem_of_printable {str : String} (h : ∀ d ∈ str.toList, Printable d) : c ∉ str.toList :=
  fun hm => hc (h c hm)

theorem not_mem_decU (n : Nat) : c ∉ (decU n).toList :=
  not_mem_of_printable hc (by simpa [decU] using digits_printable n n)

theorem not_mem_decS (v : Int) : c ∉ (decS v).toList := by
  have sign : c ∉ "-".toList := not_mem_of_printable hc (by simp [Printable])
  unfold decS
  split
  · exact not_mem_append sign (not_mem_decU hc _)
  · exact not_mem_decU hc _

theorem not_mem_regText (names : Bool) (i : RegIx) : c ∉ (regText names i).toList := by
  have dollar : c ∉ "$".toList := not_mem_of_printable hc (by simp [Printable])
  unfold regText
  split
  · exact not_mem_of_printable hc (pRegNames_printable _ (Vector.getElem_mem _))
  · exact not_mem_append dollar (not_mem_decU hc _)

theorem not_mem_suffix {label : Option Label} (hl : ∀ n ∈ label, c ∉ n.toList) : c ∉ (suffix label).toList := by
  have opening : c ∉ " <".toList := not_mem_of_printable hc (by simp [Printable])
  have closing : c ∉ ">".toList := not_mem_of_printable hc (by simp [Printable])
  cases label with
  | none => simp [suffix]
  | some n => exact not_mem_append (not_mem_append opening (hl n rfl)) closing

/-- An operand's spelling has no unprintable character but its label's. -/
theorem not_mem_render (names : Bool) {o : Operand} (hl : ∀ n ∈ o.label?, c ∉ n.toList) :
    c ∉ (render names o).toList := by
  have opening : c ∉ "(".toList := not_mem_of_printable hc (by simp [Printable])
  have closing : c ∉ ")".toList := not_mem_of_printable hc (by simp [Printable])
  cases o with
  | reg i => exact not_mem_regText hc names i
  | shamt i => exact not_mem_regText hc names i
  | imm v => exact not_mem_decS hc v
  | mem off base =>
    have displaced := not_mem_append (not_mem_decS hc off) opening
    exact not_mem_append (not_mem_append displaced (not_mem_regText hc names base)) closing
  | brTgt off tgt label => exact not_mem_append (not_mem_decS hc off) (not_mem_suffix hc hl)
  | jTgt field tgt label => exact not_mem_append (not_mem_decU hc field.toNat) (not_mem_suffix hc hl)

theorem not_mem_operandsText (names : Bool) {ops : List Operand} (hl : ∀ o ∈ ops, ∀ n ∈ o.label?, c ∉ n.toList) :
    c ∉ (operandsText names ops).toList := by
  have comma : c ∉ ", ".toList := not_mem_of_printable hc (by simp [Printable])
  induction ops with
  | nil => simp [operandsText]
  | cons o rest ih =>
    obtain ⟨ho, hrest⟩ := List.forall_mem_cons.mp hl
    cases rest with
    | nil => exact not_mem_render hc names ho
    | cons o' rest => exact not_mem_append (not_mem_append (not_mem_render hc names ho) comma) (ih hrest)

/-- A line has no unprintable character but its labels' (R12, R23). -/
theorem not_mem_lineText (names : Bool) {r : Record} (hl : ∀ n ∈ r.labels, c ∉ n.toList) :
    c ∉ (lineText names r).toList := by
  have space : c ∉ " ".toList := not_mem_of_printable hc (by simp [Printable])
  cases r with
  | unsupported => exact not_mem_of_printable hc (str := pSentinel) (by simp [pSentinel, Printable])
  | insn mn ops =>
    have hmn := not_mem_of_printable hc (mnemonicText_printable mn)
    cases ops with
    | nil => exact hmn
    | cons o rest =>
      have hops : ∀ p ∈ o :: rest, ∀ n ∈ p.label?, c ∉ n.toList :=
        fun p hp n hn => hl n (List.mem_filterMap.mpr ⟨p, hp, hn⟩)
      exact not_mem_append (not_mem_append hmn space) (not_mem_operandsText hc names hops)

end NotPrintable

/-! ### Every label in a record is an answer of the `Lookup` port -/

/-- The labels of `r` are answers of the `Lookup` port in `s`. -/
def LabelsLookedUp (s : State) (r : Record) : Prop :=
  ∀ n ∈ r.labels, ∃ a, s.lookup a = some n

/-- An answer that writes the output ports with a record whose labels were looked up. -/
def EmitsLookedUp (s : State) (a : Answer) : Prop :=
  ∃ r q, a = .next (s.emit r q) ∧ LabelsLookedUp s r

section Shared
variable (s : State) {mn : Mnemonic} {ops : List Operand} (rs rt rd shamt : RegIx) (imm : Imm16) (target : Target26)

theorem emitsLookedUp_plain (h : (Record.insn mn ops).labels = []) : EmitsLookedUp s (emitPlain mn ops s) :=
  ⟨_, _, rfl, by simp [LabelsLookedUp, h]⟩

/-- A branch's operands but the last hold no label; the last holds the answer at the target. -/
theorem emitsLookedUp_branch (h : (Record.insn mn ops).labels = []) : EmitsLookedUp s (emitBranch mn ops imm s) := by
  refine ⟨_, _, rfl, fun n hn => ⟨branchTarget s.address imm, ?_⟩⟩
  rw [Record.labels, List.filterMap_append, show ops.filterMap Operand.label? = [] from h] at hn
  simpa [Operand.label?] using hn

theorem emitsLookedUp_jump : EmitsLookedUp s (emitJump mn target s) :=
  ⟨_, _, rfl, fun n hn => ⟨jumpTarget s.address target, by simpa [Record.labels, Operand.label?] using hn⟩⟩

theorem emitsLookedUp_renderSll : EmitsLookedUp s (renderSll rs rt rd shamt s) := by
  unfold renderSll; split <;> exact emitsLookedUp_plain s rfl

theorem emitsLookedUp_renderAdd : EmitsLookedUp s (renderAdd rs rt rd s) := by
  unfold renderAdd; split <;> exact emitsLookedUp_plain s rfl

theorem emitsLookedUp_renderJalr : EmitsLookedUp s (renderJalr rs rd s) := by
  unfold renderJalr; split <;> exact emitsLookedUp_plain s rfl

theorem emitsLookedUp_renderBgezal : EmitsLookedUp s (renderBgezal rs imm s) := by
  unfold renderBgezal; split <;> exact emitsLookedUp_branch s imm rfl

theorem emitsLookedUp_renderBeq : EmitsLookedUp s (renderBeq rs rt imm s) := by
  unfold renderBeq; split <;> exact emitsLookedUp_branch s imm rfl
end Shared

/-- Every instruction's labels come from the `Lookup` port: branches and jumps query it, the others hold none (R113). -/
theorem exec_emitsLookedUp (i : Instr) (s : State) : EmitsLookedUp s (exec i s) := by
  cases i with
  | sll rs rt rd shamt => exact emitsLookedUp_renderSll s rs rt rd shamt
  | nop => exact emitsLookedUp_renderSll s 0 0 0 0
  | add rs rt rd => exact emitsLookedUp_renderAdd s rs rt rd
  | move rs rd => exact emitsLookedUp_renderAdd s rs 0 rd
  | jalr rs _ rd => exact emitsLookedUp_renderJalr s rs rd
  | jalrOneOperand rs => exact emitsLookedUp_renderJalr s rs 31
  | bgezal rs imm => exact emitsLookedUp_renderBgezal s rs imm
  | bal imm => exact emitsLookedUp_renderBgezal s 0 imm
  | beq rs rt imm => exact emitsLookedUp_renderBeq s rs rt imm
  | b imm => exact emitsLookedUp_renderBeq s 0 0 imm
  | bltz _ imm | bgez _ imm | bltzal _ imm | bne _ _ imm | blez _ _ imm | bgtz _ _ imm =>
    exact emitsLookedUp_branch s imm rfl
  | j target | jal target => exact emitsLookedUp_jump s target
  | _ => exact emitsLookedUp_plain s rfl

theorem step_emitsLookedUp (s : State) : ∃ r q, step s = .next (s.emit r q).settle ∧ LabelsLookedUp s r := by
  cases h : decode s.pseudoInstructions s.word with
  | ok i =>
    obtain ⟨r, q, hr, hl⟩ := exec_emitsLookedUp i s
    exact ⟨r, q, by simp [step, h, hr], hl⟩
  | error c => exact ⟨.unsupported, none, step_of_unsupported h, by simp [LabelsLookedUp, Record.labels]⟩

/-! ### Every answer of the `Lookup` port is a label of the table or of its change -/

theorem SymTab.mem_of_find {t : SymTab} {a : Word} {n : Label} (h : SymTab.find t a = some n) : (a, n) ∈ t := by
  induction t with
  | nil => simp at h
  | cons e t ih =>
    obtain ⟨k, m⟩ := e
    rw [SymTab.find_cons] at h
    split at h
    next hk =>
      obtain rfl := Option.some.inj h
      exact hk ▸ List.mem_cons_self
    · exact List.mem_cons_of_mem _ (ih h)

theorem State.mem_of_lookup {s : State} {a : Word} {n : Label} (h : s.lookup a = some n) :
    (a, n) ∈ s.symbols ∨ ∃ new, s.symbolsDuring = some new ∧ (a, n) ∈ new := by
  cases hd : s.symbolsDuring with
  | none => exact .inl (SymTab.mem_of_find (s.lookup_of_held hd ▸ h))
  | some new =>
    rcases s.lookup_of_changing new hd with hs | hs
    · exact .inl (SymTab.mem_of_find (hs ▸ h))
    · exact .inr ⟨new, rfl, SymTab.mem_of_find (hs ▸ h)⟩

/-- Settles O51: the line of a step has no unprintable character but its labels', and these stand in the table or in its
change. -/
theorem blockMakesOnlyPrintableAscii : Obligations.BlockMakesOnlyPrintableAscii := by
  unfold Obligations.BlockMakesOnlyPrintableAscii
  intro s t txt c hc hold hnew hstep htext
  obtain ⟨r, q, hs, hlabels⟩ := step_emitsLookedUp s
  obtain rfl : (s.emit r q).settle = t := by simpa [hs] using hstep
  obtain rfl : lineText s.useRegNames r = txt := by simpa using htext
  refine not_mem_lineText hc _ fun n hn => ?_
  obtain ⟨a, ha⟩ := hlabels n hn
  rcases State.mem_of_lookup ha with h | ⟨new, hd, h⟩
  · exact hold _ h
  · exact hnew new hd _ h

end Sys2Proof.Machine
end

section
/-! PROOF. The machine against the opcode table (spec/opcode_table.json, 40_datapath.md R140): the two-level dispatch and the
base rows' mask-and-match tests read the same bits of a word, its dispatch key; so every step answers the record of the
word's row. -/

namespace Sys2Proof.Machine

/-! ### The dispatch key of a word -/

/-- What the two-level dispatch reads of a word: the primary opcode, and the field that selects under opcode 0x00 or 0x01
(R70 to R72). -/
def dispatchKey (w : Word) : BitVec 6 × BitVec 6 :=
  let f := extract w
  (f.opcode, if f.opcode = 0 then f.funct else if f.opcode = 1 then f.rt.zeroExtend 6 else 0)

section Key
variable {w : Word}

theorem dispatchKey_eq_special {f : BitVec 6} :
    dispatchKey w = (0#6, f) ↔ (extract w).opcode = 0#6 ∧ (extract w).funct = f := by
  simp +contextual [dispatchKey]

theorem dispatchKey_eq_regimm {sel : RegIx} :
    dispatchKey w = (1#6, sel.zeroExtend 6) ↔ (extract w).opcode = 1#6 ∧ (extract w).rt = sel := by
  have inj : (extract w).rt.zeroExtend 6 = sel.zeroExtend 6 ↔ (extract w).rt = sel :=
    ⟨fun h => by simpa using congrArg (BitVec.setWidth 5) h, congrArg _⟩
  simp +contextual [dispatchKey, ← inj]

theorem dispatchKey_eq_primary {op : BitVec 6} (h0 : op ≠ 0#6) (h1 : op ≠ 1#6) :
    dispatchKey w = (op, 0#6) ↔ (extract w).opcode = op := by
  refine ⟨fun h => congrArg Prod.fst h, ?_⟩
  rintro rfl
  exact Prod.ext rfl ((if_neg h0).trans (if_neg h1))

/-! ### The rows' tests as tests of the key -/

theorem specialRow_matches_iff_key : ∀ row ∈ specialRows,
    (row.matchesWord w = true ↔ dispatchKey w = dispatchKey row.pattern) := by
  have shape : ∀ row ∈ specialRows, ∃ f, row = specialRow row.mn row.pattern row.template ∧
      row.pattern = sixFields 0 0 0 0 0 f ∧ dispatchKey row.pattern = (0#6, f) := by decide
  intro row hrow
  obtain ⟨f, hr, hp, hk⟩ := shape row hrow
  rw [hk, hr, special_matches _ _ _ _ _ hp, dispatchKey_eq_special]

theorem regimmRow_matches_iff_key : ∀ row ∈ regimmRows,
    (row.matchesWord w = true ↔ dispatchKey w = dispatchKey row.pattern) := by
  have shape : ∀ row ∈ regimmRows, ∃ sel : RegIx, row = regimmRow row.mn row.pattern ∧
      row.pattern = sixFields 1 0 sel 0 0 0 ∧ dispatchKey row.pattern = (1#6, sel.zeroExtend 6) := by decide
  intro row hrow
  obtain ⟨sel, hr, hp, hk⟩ := shape row hrow
  rw [hk, hr, regimm_matches _ _ _ _ hp, dispatchKey_eq_regimm]

theorem primaryRow_matches_iff_key : ∀ row ∈ primaryRows ++ memoryRows,
    (row.matchesWord w = true ↔ dispatchKey w = dispatchKey row.pattern) := by
  have shape : ∀ row ∈ primaryRows ++ memoryRows, ∃ op, row = primaryRow row.mn row.pattern row.template ∧
      row.pattern = sixFields op 0 0 0 0 0 ∧ dispatchKey row.pattern = (op, 0#6) ∧ op ≠ 0#6 ∧ op ≠ 1#6 := by decide
  intro row hrow
  obtain ⟨op, hr, hp, hk, h0, h1⟩ := shape row hrow
  rw [hk, hr, primary_matches _ _ _ _ _ hp, dispatchKey_eq_primary h0 h1]

/-- A base row's test is a test of the dispatch key. -/
theorem baseRow_matches_iff_key : ∀ row ∈ baseRows,
    (row.matchesWord w = true ↔ dispatchKey w = dispatchKey row.pattern) := by
  intro row hrow
  rw [baseRows, List.append_assoc, List.mem_append, List.mem_append] at hrow
  rcases hrow with (hrow | hrow) | hrow
  · exact specialRow_matches_iff_key row hrow
  · exact regimmRow_matches_iff_key row hrow
  · exact primaryRow_matches_iff_key row hrow

/-- A pseudo row's test implies the test of the key: a pseudo row picks out words of one base row (R130). -/
theorem pseudoRow_key_of_matches : ∀ row ∈ pseudoRows,
    row.matchesWord w = true → dispatchKey w = dispatchKey row.pattern := by
  simp only [pseudoRows, List.forall_mem_cons, nop_matches, move_matches, jalrOneOperand_matches, bal_matches, b_matches]
  refine ⟨?_, ?_, ?_, ?_, ?_, by simp⟩
  · rintro rfl; rfl
  · exact fun ⟨hop, _, hf⟩ => dispatchKey_eq_special.mpr ⟨hop, hf⟩
  · exact fun ⟨hop, _, hf⟩ => dispatchKey_eq_special.mpr ⟨hop, hf⟩
  · exact fun ⟨hop, _, hrt⟩ => dispatchKey_eq_regimm.mpr ⟨hop, hrt⟩
  · exact fun ⟨hop, _, _⟩ => (dispatchKey_eq_primary (by decide) (by decide)).mpr hop

/-! ### The first row that applies, by the key -/

/-- The first row of a list whose pattern has the key `k`. -/
def rowWithKey (rows : List TableRow) (k : BitVec 6 × BitVec 6) : Option TableRow :=
  rows.find? (fun row => k = dispatchKey row.pattern)

/-- The base row that applies is the one with the word's key. -/
theorem baseRows_find : baseRows.find? (fun row => row.matchesWord w) = rowWithKey baseRows (dispatchKey w) :=
  List.find?_congr fun row hrow => by
    rw [Bool.eq_iff_iff, baseRow_matches_iff_key row hrow, decide_eq_true_eq]

/-- The pseudo row that applies is the one with the word's key, if its own test passes: no two pseudo rows share a key. -/
theorem pseudoRows_find : pseudoRows.find? (fun row => row.matchesWord w) =
    (rowWithKey pseudoRows (dispatchKey w)).filter (fun row => row.matchesWord w) := by
  have own : ∀ row ∈ pseudoRows, rowWithKey pseudoRows (dispatchKey row.pattern) = some row := by decide
  cases h : pseudoRows.find? (fun row => row.matchesWord w) with
  | none =>
    symm
    rw [Option.filter_eq_none_iff]
    intro row hrow
    exact List.find?_eq_none.mp h row (List.mem_of_find?_eq_some hrow)
  | some row =>
    have hmem := List.mem_of_find?_eq_some h
    have hw := List.find?_some h
    rw [pseudoRow_key_of_matches row hmem hw, own row hmem]
    exact (Option.filter_some_pos (p := fun row : TableRow => row.matchesWord w) hw).symm

/-- With the option on, a pseudo row comes before the base row of its key (R130). -/
theorem rowsFor_find (pseudo : Bool) : (rowsFor pseudo).find? (fun row => row.matchesWord w) =
    ((rowWithKey pseudoRows (dispatchKey w)).filter (fun row => pseudo && row.matchesWord w)).or
      (rowWithKey baseRows (dispatchKey w)) := by
  cases pseudo with
  | false => simp [rowsFor, baseRows_find]
  | true => simp [rowsFor, baseRows_find, pseudoRows_find]

end Key

/-! ### Each instruction emits the record of its row -/

/-- The operand a template names, from the extractor's fields (R69, R140). -/
def State.operand (s : State) : OperandKind → Operand
  | .rd => .reg (extract s.word).rd
  | .rs => .reg (extract s.word).rs
  | .rt => .reg (extract s.word).rt
  | .shamt => .shamt (extract s.word).shamt
  | .simm => .imm (simm (extract s.word).imm)
  | .mem => .mem (simm (extract s.word).imm) (extract s.word).rs
  | .branch => .brTgt (simm (extract s.word).imm) (branchTarget s.address (extract s.word).imm)
      (s.lookup (branchTarget s.address (extract s.word).imm))
  | .jump => .jTgt (extract s.word).target (jumpTarget s.address (extract s.word).target)
      (s.lookup (jumpTarget s.address (extract s.word).target))

/-- The record of a row on the inputs of `s`. -/
def TableRow.record (row : TableRow) (s : State) : Record :=
  .insn row.mn (row.template.map s.operand)

/-- The record the table gives on the inputs of `s`. -/
def State.tableRecord (s : State) : Record :=
  Machine.tableRecord s.pseudoInstructions s.word s.address s.lookup

/-- An answer that emits the record `r`, and the query of its target. -/
def EmitsRecord (s : State) (r : Record) (a : Answer) : Prop :=
  a = .next (s.emit r r.target)

section Rows
variable {s : State} {k : BitVec 6 × BitVec 6} {row pseudoRow : TableRow} {a a' : Answer}

theorem buildOperand_eq_operand (s : State) : buildOperand s.word s.address s.lookup = s.operand := by
  funext kind
  rw [buildOperand_eq]
  cases kind <;> rfl

theorem tableRecord_of_find
    (h : (rowsFor s.pseudoInstructions).find? (fun row => row.matchesWord s.word) = some row) :
    s.tableRecord = row.record s := by
  simp only [State.tableRecord, tableRecord, h, buildOperand_eq_operand, TableRow.record]

/-- A key without a base row has no pseudo row either (R73). -/
theorem tableRecord_of_no_row (h : rowWithKey baseRows (dispatchKey s.word) = none) : s.tableRecord = .unsupported := by
  have hp : rowWithKey pseudoRows (dispatchKey s.word) = none := by
    have base : ∀ row ∈ pseudoRows, rowWithKey baseRows (dispatchKey row.pattern) ≠ none := by decide
    refine List.find?_eq_none.mpr fun row hrow hk => base row hrow ?_
    rw [← of_decide_eq_true hk, h]
  have hfind := rowsFor_find (w := s.word) s.pseudoInstructions
  rw [hp, h] at hfind
  simp only [State.tableRecord, tableRecord, hfind]
  rfl

/-- A word of a key that no pseudo row has. -/
theorem emits_of_key (hk : dispatchKey s.word = k) (hp : rowWithKey pseudoRows k = none)
    (hb : rowWithKey baseRows k = some row) (ha : EmitsRecord s (row.record s) a) :
    EmitsRecord s s.tableRecord a := by
  have hfind : (rowsFor s.pseudoInstructions).find? (fun row => row.matchesWord s.word) = some row := by
    rw [rowsFor_find, hk, hp, hb]
    rfl
  rwa [tableRecord_of_find hfind]

/-- A word of a key that a pseudo row shares with a base row: `test` tells which of the two it is. -/
theorem emits_of_pseudo_key {test : Bool} (hk : dispatchKey s.word = k) (hp : rowWithKey pseudoRows k = some pseudoRow)
    (hb : rowWithKey baseRows k = some row) (ht : pseudoRow.matchesWord s.word = test)
    (ha : EmitsRecord s (pseudoRow.record s) a) (ha' : EmitsRecord s (row.record s) a') :
    EmitsRecord s s.tableRecord (if s.pseudoInstructions && test then a else a') := by
  have hfind := rowsFor_find (w := s.word) s.pseudoInstructions
  rw [hk, hp, hb, Option.filter_some, ht] at hfind
  split at hfind
  next htest => rwa [tableRecord_of_find hfind, if_pos htest]
  next htest => rwa [tableRecord_of_find hfind, if_neg htest]

end Rows

/-! ### The pseudo rows' tests on the words of their base rows -/

section PseudoTests
variable {w : Word} (t : List OperandKind)

theorem nop_matches_eq (hop : (extract w).opcode = 0#6) (hf : (extract w).funct = 0#6) :
    (TableRow.mk .NOP 0x00000000 0xFFFFFFFF t).matchesWord w =
      nopPattern (extract w).rs (extract w).rt (extract w).rd (extract w).shamt := by
  have zero := sixFields_inj (extract w).opcode 0 (extract w).rs (extract w).rt (extract w).rd (extract w).shamt 0 0 0 0
    (extract w).funct 0
  rw [sixFields_extract, show sixFields 0 0 0 0 0 0 = 0#32 by decide] at zero
  rw [Bool.eq_iff_iff, nop_matches, zero]
  simp [nopPattern, hop, hf, and_assoc]

theorem move_matches_eq (hop : (extract w).opcode = 0#6) (hf : (extract w).funct = 0x20#6) :
    (TableRow.mk .MOVE 0x00000020 0xFC1F003F t).matchesWord w = movePattern (extract w).rt := by
  rw [Bool.eq_iff_iff, move_matches]
  simp [movePattern, hop, hf]

theorem jalrOneOperand_matches_eq (hop : (extract w).opcode = 0#6) (hf : (extract w).funct = 0x09#6) :
    (TableRow.mk .JALR 0x0000F809 0xFC00F83F t).matchesWord w = jalrPattern (extract w).rd := by
  rw [Bool.eq_iff_iff, jalrOneOperand_matches]
  simp [jalrPattern, hop, hf]

theorem bal_matches_eq (hop : (extract w).opcode = 1#6) (hrt : (extract w).rt = 0x11#5) :
    (TableRow.mk .BAL 0x04110000 0xFFFF0000 t).matchesWord w = balPattern (extract w).rs := by
  rw [Bool.eq_iff_iff, bal_matches]
  simp [balPattern, hop, hrt]

theorem b_matches_eq (hop : (extract w).opcode = 4#6) :
    (TableRow.mk .B 0x10000000 0xFFFF0000 t).matchesWord w = bPattern (extract w).rs (extract w).rt := by
  rw [Bool.eq_iff_iff, b_matches]
  simp [bPattern, hop]

end PseudoTests

/-! ### The dispatcher, group by group -/

/-- What a transaction does with the dispatcher's answer. -/
def State.answer (s : State) : Except Cause Instr → Answer
  | .ok i => exec i s
  | .error _ => .next s.emitUnsupported

section Groups
variable {s : State}

/-- The sentinel is the record of a word without a row (R102). -/
theorem unsupported_emits (h : rowWithKey baseRows (dispatchKey s.word) = none) (c : Cause) :
    EmitsRecord s s.tableRecord (s.answer (.error c)) := by
  rw [tableRecord_of_no_row h]
  rfl

theorem eq_ofNat_of_toNat {m n : Nat} {b : BitVec m} (h : b.toNat = n) : b = BitVec.ofNat m n := by
  rw [← h, BitVec.ofNat_toNat, BitVec.setWidth_eq]

/-- The SPECIAL group (R71). SLL, JALR and ADD share their key with a pseudo row; the last case is the map's dashes. -/
theorem special_emits (hop : (extract s.word).opcode = 0#6) :
    EmitsRecord s s.tableRecord (s.answer (dispatchSpecial (extract s.word))) := by
  have key {n : Nat} (hf : (extract s.word).funct.toNat = n) : dispatchKey s.word = (0#6, BitVec.ofNat 6 n) :=
    dispatchKey_eq_special.mpr ⟨hop, eq_ofNat_of_toNat hf⟩
  unfold dispatchSpecial
  split
  case h_1 hf => exact emits_of_pseudo_key (key hf) rfl rfl (nop_matches_eq _ hop (eq_ofNat_of_toNat hf)) rfl rfl
  case h_8 hf =>
    exact emits_of_pseudo_key (key hf) rfl rfl (jalrOneOperand_matches_eq _ hop (eq_ofNat_of_toNat hf)) rfl rfl
  case h_10 hf => exact emits_of_pseudo_key (key hf) rfl rfl (move_matches_eq _ hop (eq_ofNat_of_toNat hf)) rfl rfl
  case h_20 =>
    have listed : ∀ f : BitVec 6, rowWithKey baseRows (0#6, f) = none ∨ f.toNat ∈
      [0x00, 0x02, 0x03, 0x04, 0x06, 0x07, 0x08, 0x09, 0x0C, 0x20, 0x21, 0x22, 0x23, 0x24, 0x25, 0x26, 0x27, 0x2A, 0x2B] := by
      decide
    refine unsupported_emits ?_ _
    rw [dispatchKey_eq_special.mpr ⟨hop, rfl⟩]
    refine (listed _).resolve_right ?_
    simp_all
  all_goals
    rename_i hf
    exact emits_of_key (key hf) rfl rfl rfl

/-- The REGIMM group (R72). BGEZAL shares its key with BAL; the last case is the map's dashes. -/
theorem regimm_emits (hop : (extract s.word).opcode = 1#6) :
    EmitsRecord s s.tableRecord (s.answer (dispatchRegimm (extract s.word))) := by
  have key {n : Nat} (hrt : (extract s.word).rt.toNat = n) :
      dispatchKey s.word = (1#6, (BitVec.ofNat 5 n).zeroExtend 6) :=
    dispatchKey_eq_regimm.mpr ⟨hop, eq_ofNat_of_toNat hrt⟩
  unfold dispatchRegimm regimmSelector
  split
  case h_4 hrt => exact emits_of_pseudo_key (key hrt) rfl rfl (bal_matches_eq _ hop (eq_ofNat_of_toNat hrt)) rfl rfl
  case h_5 =>
    have listed : ∀ sel : RegIx, rowWithKey baseRows (1#6, sel.zeroExtend 6) = none ∨
      sel.toNat ∈ [0x00, 0x01, 0x10, 0x11] := by decide
    refine unsupported_emits ?_ _
    rw [dispatchKey_eq_regimm.mpr ⟨hop, rfl⟩]
    refine (listed _).resolve_right ?_
    simp_all
  all_goals
    rename_i hrt
    exact emits_of_key (key hrt) rfl rfl rfl

/-- Every word (R70): the two secondary groups, then the rows selected by the primary opcode. BEQ shares its key with B; the
last case is the map's dashes. -/
theorem dispatch_emits (s : State) : EmitsRecord s s.tableRecord (s.answer (dispatch (extract s.word))) := by
  have key {n : Nat} (hop : (extract s.word).opcode.toNat = n) (h0 : BitVec.ofNat 6 n ≠ 0#6)
      (h1 : BitVec.ofNat 6 n ≠ 1#6) : dispatchKey s.word = (BitVec.ofNat 6 n, 0#6) :=
    (dispatchKey_eq_primary h0 h1).mpr (eq_ofNat_of_toNat hop)
  unfold dispatch
  split
  case h_1 hop => exact special_emits (eq_ofNat_of_toNat hop)
  case h_2 hop => exact regimm_emits (eq_ofNat_of_toNat hop)
  case h_5 hop =>
    exact emits_of_pseudo_key (key hop (by decide) (by decide)) rfl rfl (b_matches_eq _ (eq_ofNat_of_toNat hop)) rfl rfl
  case h_30 =>
    have listed : ∀ op : BitVec 6, op ≠ 0#6 → op ≠ 1#6 → rowWithKey baseRows (op, 0#6) = none ∨ op.toNat ∈
      [0x02, 0x03, 0x04, 0x05, 0x06, 0x07, 0x08, 0x09, 0x0A, 0x0B, 0x0C, 0x0D, 0x0E, 0x0F, 0x10, 0x20, 0x21, 0x22, 0x23,
       0x24, 0x25, 0x26, 0x28, 0x29, 0x2A, 0x2B, 0x2E] := by decide
    have h0 : (extract s.word).opcode ≠ 0#6 := by bv_omega
    have h1 : (extract s.word).opcode ≠ 1#6 := by bv_omega
    refine unsupported_emits ?_ _
    rw [(dispatchKey_eq_primary h0 h1).mpr rfl]
    refine (listed _ h0 h1).resolve_right ?_
    simp_all
  all_goals
    rename_i hop
    exact emits_of_key (key hop (by decide) (by decide)) rfl rfl rfl

/-- The machine agrees with the opcode table on every word, from every state. -/
theorem step_eq_tableRecord (s : State) : step s = .next (s.emit s.tableRecord s.tableRecord.target).settle := by
  have h := dispatch_emits s
  cases hd : dispatch (extract s.word) with
  | ok i => exact step_of_dispatch hd (by rwa [hd] at h)
  | error c =>
    rw [hd] at h
    rw [step_of_dispatch_error hd, Host.Outcome.next.inj h]

end Groups

end Sys2Proof.Machine
end

section
/-! PROOF. What the inputs reach (10_state.md): the table record is a function of the word, the address, the options and the
`Lookup` answers (R37), and of the address and the answers on words with a target only (R22); the zero-configuration form
(R36); the register multiplexer (R24, R25, R30). -/

namespace Sys2Proof.Machine

open Sys2Proof.Stated

/-- The three output ports after a step. -/
theorem outputs_of_step {s t : State} (h : step s = .next t) :
    t.outputs = ⟨some (lineText s.useRegNames s.tableRecord), some s.tableRecord, s.tableRecord.target⟩ := by
  obtain rfl : (s.emit s.tableRecord s.tableRecord.target).settle = t := by simpa [step_eq_tableRecord] using h
  simp [State.outputs]

/-- Settles O48: all a step leaves on the output ports is a function of the inputs and the `Lookup` answers. -/
theorem equalInputsGiveEqualOutputs : Obligations.EqualInputsGiveEqualOutputs := by
  unfold Obligations.EqualInputsGiveEqualOutputs
  intro s s' t t' hword haddress hnames hpseudo hlookup hstep hstep'
  have hrecord : s.tableRecord = s'.tableRecord := by
    simp only [State.tableRecord, hword, haddress, hpseudo, funext hlookup]
  rw [outputs_of_step hstep, outputs_of_step hstep', hrecord, hnames]

/-! ### The words with a target, by the dispatch key -/

section Targets
variable {w w' : Word}

theorem opcodeOf_eq (w : Word) : opcodeOf w = (extract w).opcode.toNat := by
  have := w.isLt
  simp only [opcodeOf, extract, toNat_field]
  omega

theorem rtOf_eq (w : Word) : rtOf w = (extract w).rt.toNat := (toNat_field w 16 5).symm

theorem opcodeOf_congr (h : dispatchKey w = dispatchKey w') : opcodeOf w = opcodeOf w' := by
  rw [opcodeOf_eq, opcodeOf_eq, show (extract w).opcode = (extract w').opcode from congrArg Prod.fst h]

theorem rtOf_congr (h : dispatchKey w = dispatchKey w') (hop : opcodeOf w = 1) : rtOf w = rtOf w' := by
  have hop1 : (extract w).opcode = 1#6 := BitVec.eq_of_toNat_eq (opcodeOf_eq w ▸ hop)
  have hkey := dispatchKey_eq_regimm.mpr ⟨hop1, rfl⟩
  rw [rtOf_eq, rtOf_eq, (dispatchKey_eq_regimm.mp (h.symm.trans hkey)).2]

theorem isBranch_congr (h : dispatchKey w = dispatchKey w') : isBranch w ↔ isBranch w' := by
  unfold isBranch
  rw [← opcodeOf_congr h]
  exact or_congr_right (and_congr_right fun hop => by rw [rtOf_congr h hop])

theorem isJump_congr (h : dispatchKey w = dispatchKey w') : isJump w ↔ isJump w' := by
  unfold isJump
  rw [opcodeOf_congr h]

theorem key_of_row_matches {pseudo : Bool} {row : TableRow} (hrow : row ∈ rowsFor pseudo)
    (hw : row.matchesWord w = true) : row ∈ pseudoRows ++ baseRows ∧ dispatchKey w = dispatchKey row.pattern := by
  have hmem : row ∈ pseudoRows ++ baseRows := by
    cases pseudo with
    | false => exact List.mem_append_right _ hrow
    | true => exact hrow
  refine ⟨hmem, ?_⟩
  rcases List.mem_append.mp hmem with h | h
  · exact pseudoRow_key_of_matches row h hw
  · exact (baseRow_matches_iff_key row h).mp hw

/-- A row with a branch operand applies to branch words only. -/
theorem isBranch_of_row {pseudo : Bool} {row : TableRow} (hrow : row ∈ rowsFor pseudo) (hw : row.matchesWord w = true)
    (hkind : .branch ∈ row.template) : isBranch w := by
  have rows : ∀ row ∈ pseudoRows ++ baseRows, .branch ∈ row.template → isBranch row.pattern := by
    unfold isBranch
    decide
  obtain ⟨hmem, hkey⟩ := key_of_row_matches hrow hw
  exact (isBranch_congr hkey).mpr (rows row hmem hkind)

/-- A row with a jump operand applies to the words of J and JAL only. -/
theorem isJump_of_row {pseudo : Bool} {row : TableRow} (hrow : row ∈ rowsFor pseudo) (hw : row.matchesWord w = true)
    (hkind : .jump ∈ row.template) : isJump w := by
  have rows : ∀ row ∈ pseudoRows ++ baseRows, .jump ∈ row.template → isJump row.pattern := by
    unfold isJump
    decide
  obtain ⟨hmem, hkey⟩ := key_of_row_matches hrow hw
  exact (isJump_congr hkey).mpr (rows row hmem hkind)

/-- On a word without a target the table reads neither the address nor a label. -/
theorem tableRecord_of_no_target (pseudo : Bool) (address address' : Word) (lookup lookup' : Word → Option Label)
    (hbranch : ¬isBranch w) (hjump : ¬isJump w) :
    tableRecord pseudo w address lookup = tableRecord pseudo w address' lookup' := by
  unfold tableRecord
  cases hfind : (rowsFor pseudo).find? (fun row => row.matchesWord w) with
  | none => rfl
  | some row =>
    have hrow := List.mem_of_find?_eq_some hfind
    have hw := List.find?_some hfind
    refine congrArg (Record.insn row.mn) (List.map_congr_left fun kind hkind => ?_)
    cases kind with
    | branch => exact absurd (isBranch_of_row hrow hw hkind) hbranch
    | jump => exact absurd (isJump_of_row hrow hw hkind) hjump
    | rd | rs | rt | shamt | simm | mem => rfl

end Targets

/-- Settles O43: a word that is no branch and no direct jump has a row without a target operand. -/
theorem addressAndTableReachOnlyTargets : Obligations.AddressAndTableReachOnlyTargets := by
  unfold Obligations.AddressAndTableReachOnlyTargets
  intro s s' t t' hword hnames hpseudo hbranch hjump hstep hstep'
  have hrecord : s.tableRecord = s'.tableRecord := by
    unfold State.tableRecord
    rw [← hword, ← hpseudo]
    exact tableRecord_of_no_target _ _ _ _ _ hbranch hjump
  rw [outputs_of_step hstep, outputs_of_step hstep', hrecord, hnames]

/-! ### The zero-configuration form -/

/-- An empty table held answers every address with no label. -/
theorem tableRecord_zeroConfig (w : Word) (s : State) :
    (s.supply (Inputs.zeroConfig w)).tableRecord = tableRecord true w 0 (fun _ => none) := by
  unfold State.tableRecord
  rw [State.lookup_of_held _ rfl]
  rfl

/-- Settles O52: the step on the supplied inputs answers their table record. -/
theorem zeroConfigurationRenders : Obligations.ZeroConfigurationRenders := by
  unfold Obligations.ZeroConfigurationRenders
  intro w s
  refine ⟨_, step_eq_tableRecord (s.supply (Inputs.zeroConfig w)), ?_, ?_⟩
  · rw [State.settle_record, State.emit_record, tableRecord_zeroConfig]
  · rw [State.settle_text, State.emit_text, tableRecord_zeroConfig]
    rfl

/-! ### The register multiplexer -/

/-- With enough fuel the digits of `n` have the value `n`. -/
theorem digitsValue_digits {fuel n : Nat} (h : n ≤ fuel) : digitsValue (digits fuel n) = n := by
  have digit : ∀ d < 10, (digitChar d).toNat - 48 = d := by decide
  induction fuel generalizing n with
  | zero =>
    obtain rfl := Nat.le_zero.mp h
    rfl
  | succ fuel ih =>
    unfold digits
    split
    next hn => simp [digitsValue, digit n hn]
    next hn =>
      have hquot := ih (n := n / 10) (by omega)
      unfold digitsValue at hquot ⊢
      rw [List.foldl_append, hquot]
      simp only [List.foldl_cons, List.foldl_nil, digit _ (Nat.mod_lt n (by decide))]
      omega

/-- A number's digits tell it (R121). -/
theorem decU_injective : Function.Injective decU := by
  intro m n h
  have hdigits : digits m m = digits n n := String.ofList_injective h
  rw [← digitsValue_digits (Nat.le_refl m), hdigits, digitsValue_digits (Nat.le_refl n)]

/-- No two entries of the ROM are equal (R24). -/
theorem regText_true_injective : Function.Injective (regText true) := by decide

theorem regText_false_injective : Function.Injective (regText false) := by
  intro i j h
  have hnumber : decU i.toNat = decU j.toNat := by simpa [regText] using h
  exact BitVec.eq_of_toNat_eq (decU_injective hnumber)

/-- Settles O33: the ROM entry by entry, the numbers because a number's digits tell it. -/
theorem registerMultiplexerSpells : Obligations.RegisterMultiplexerSpells := by
  unfold Obligations.RegisterMultiplexerSpells
  refine ⟨by decide, fun i => rfl, ?_⟩
  intro names i j h
  cases names with
  | false => exact regText_false_injective h
  | true => exact regText_true_injective h

end Sys2Proof.Machine
end

section
/-! PROOF. The symbol table and what a transaction leaves (20_memory.md): `Lookup` is exact equality of keys (R41), the block
writes the output ports only and keeps the table canonical (R40 to R42), it queries the targets of branches and direct jumps
and nothing else (R44, R113), a changing table gives the old or the new answer (R50), and a repeated transaction changes
nothing (R49). -/

namespace Sys2Proof.Machine

open Sys2Proof.Stated

/-! ### The invariant -/

/-- The ports after a transaction agree: the record is of a template, the text its line, the query its target. -/
theorem State.emit_settle_consistent (s : State) {r : Record} (hr : r.wf = true) :
    (s.emit r r.target).settle.outputs.consistent :=
  .inr ⟨r, s.useRegNames, by simp [State.outputs, hr]⟩

/-- The end of a table change leaves the contents held before or the new ones, both canonical. -/
theorem State.settle_symbols_wf {s : State} (hold : SymTab.wf s.symbols = true)
    (hnew : ∀ new, s.symbolsDuring = some new → SymTab.wf new = true) : SymTab.wf s.settle.symbols = true := by
  rw [State.settle_symbols]
  cases h : s.symbolsDuring with
  | none => exact hold
  | some new => exact hnew new h

/-- Settles O3: a step writes consistent output ports and leaves the old or the new table, held. -/
theorem stepKeepsInvariant : Obligations.StepKeepsInvariant := by
  unfold Obligations.StepKeepsInvariant
  intro s t hinv hstep
  obtain ⟨r, hs, hr⟩ := step_emits s
  obtain rfl : (s.emit r r.target).settle = t := by simpa [hs] using hstep
  exact {
    symbols_wf := State.settle_symbols_wf hinv.symbols_wf hinv.symbolsDuring_wf
    symbolsDuring_wf := by simp
    outputs_consistent := s.emit_settle_consistent hr }

/-- Settles O7: every instruction emits a record of the block's templates. -/
theorem everyInstructionCompletesAndKeepsInputs : Obligations.EveryInstructionCompletesAndKeepsInputs := by
  unfold Obligations.EveryInstructionCompletesAndKeepsInputs
  intro i s
  obtain ⟨r, hexec, hr⟩ := exec_emits i s
  exact ⟨r, lineText s.useRegNames r, r.target, hexec, rfl, hr, rfl⟩

/-! ### `Lookup` by exact equality of keys (R41) -/

/-- In a canonical table no later entry has the key of an earlier one, so the first entry with a key is the only one. -/
theorem SymTab.find_of_mem {t : SymTab} {a : Word} {n : Label} (hwf : SymTab.wf t = true) (hmem : (a, n) ∈ t) :
    SymTab.find t a = some n := by
  induction t with
  | nil => simp at hmem
  | cons e t ih =>
    obtain ⟨k, m⟩ := e
    obtain ⟨hlt, htail⟩ := (SymTab.wf_cons _ _).mp hwf
    rw [SymTab.find_cons]
    rcases List.mem_cons.mp hmem with heq | hmem
    · obtain ⟨rfl, rfl⟩ := Prod.mk.inj heq
      exact if_pos rfl
    · have hne : k ≠ a := BitVec.ne_of_lt (hlt _ hmem)
      rw [if_neg hne]
      exact ih htail hmem

theorem SymTab.find_eq_none_iff {t : SymTab} {a : Word} : SymTab.find t a = none ↔ ∀ e ∈ t, e.1 ≠ a := by
  induction t with
  | nil => simp
  | cons e t ih =>
    obtain ⟨k, m⟩ := e
    rw [SymTab.find_cons, List.forall_mem_cons, ← ih]
    by_cases h : k = a <;> simp [h]

/-- Settles O40: the port reads the table held, where a key has at most one label. -/
theorem lookupIsExactKeyEquality : Obligations.LookupIsExactKeyEquality := by
  unfold Obligations.LookupIsExactKeyEquality
  intro s a hheld hwf
  rw [State.lookup_of_held s hheld]
  exact ⟨fun n => ⟨SymTab.mem_of_find, SymTab.find_of_mem hwf⟩, SymTab.find_eq_none_iff⟩

/-! ### A changing table (R50) -/

/-- `s` with the table `tab` held. -/
def State.hold (s : State) (tab : SymTab) : State :=
  { s with symbols := tab, symbolsDuring := none }

theorem State.hold_lookup (s : State) (tab : SymTab) : (s.hold tab).lookup = SymTab.find tab :=
  State.lookup_of_held _ rfl

/-- Under a changing table the port answers as it would with the old or with the new contents held. -/
theorem State.exists_hold_lookup_eq {s : State} {new : SymTab} (h : s.symbolsDuring = some new) :
    ∃ tab, (tab = s.symbols ∨ tab = new) ∧ s.lookup = (s.hold tab).lookup := by
  rcases s.lookup_of_changing new h with hl | hl
  · exact ⟨s.symbols, .inl rfl, by rw [hl, State.hold_lookup]⟩
  · exact ⟨new, .inr rfl, by rw [hl, State.hold_lookup]⟩

/-- A step ends a table change. -/
theorem table_of_step {s t : State} (h : step s = .next t) :
    t.symbols = s.symbolsDuring.getD s.symbols ∧ t.symbolsDuring = none := by
  obtain rfl : (s.emit s.tableRecord s.tableRecord.target).settle = t := by simpa [step_eq_tableRecord] using h
  simp

/-- Settles O41: the outputs are a function of the `Lookup` answers, and these are the old or the new contents'. -/
theorem changedTableGivesOldOrNewAnswer : Obligations.ChangedTableGivesOldOrNewAnswer := by
  unfold Obligations.ChangedTableGivesOldOrNewAnswer
  intro s t new hnew hstep
  obtain ⟨tab, htab, hlookup⟩ := State.exists_hold_lookup_eq hnew
  have hstep' := step_eq_tableRecord (s.hold tab)
  have houtputs := equalInputsGiveEqualOutputs s (s.hold tab) _ _ rfl rfl rfl rfl (congrFun hlookup) hstep hstep'
  obtain ⟨hsymbols, hduring⟩ := table_of_step hstep
  rw [hnew] at hsymbols
  exact ⟨⟨tab, _, htab, hstep', houtputs⟩, hsymbols, hduring⟩

/-! ### What is queried (R44, R113) -/

/-- The address an operand is looked up at, if it is a target (R112). -/
def Operand.query : Operand → Option Word
  | .brTgt _ tgt _ => some tgt
  | .jTgt _ tgt _ => some tgt
  | _ => none

theorem Record.target_insn (mn : Mnemonic) (ops : List Operand) :
    (Record.insn mn ops).target = ops.findSome? Operand.query := by
  unfold Record.target Operand.query
  rfl

/-- The target a template names, if it names one. -/
def targetKind (template : List OperandKind) : Option OperandKind :=
  template.find? (fun kind => kind = .branch ∨ kind = .jump)

/-- A row's query is that of the target its template names. -/
theorem TableRow.record_target (row : TableRow) (s : State) :
    (row.record s).target = (targetKind row.template).bind fun kind => (s.operand kind).query := by
  unfold TableRow.record
  rw [Record.target_insn, List.findSome?_map]
  induction row.template with
  | nil => rfl
  | cons kind template ih =>
    cases kind with
    | branch | jump => rfl
    | rd | rs | rt | shamt | simm | mem => exact ih

section Query
variable {w : Word} {s : State} {row : TableRow}

/-- Every branch and every direct jump has a base row. -/
theorem rowWithKey_of_target (h : isBranch w ∨ isJump w) : rowWithKey baseRows (dispatchKey w) ≠ none := by
  have primary : ∀ op : BitVec 6, 2 ≤ op.toNat ∧ op.toNat ≤ 7 → rowWithKey baseRows (op, 0#6) ≠ none := by decide
  have regimm : ∀ sel : RegIx, sel.toNat = 0 ∨ sel.toNat = 1 ∨ sel.toNat = 0x10 ∨ sel.toNat = 0x11 →
    rowWithKey baseRows (1#6, sel.zeroExtend 6) ≠ none := by decide
  simp only [isBranch, isJump, opcodeOf_eq, rtOf_eq] at h
  by_cases hop : (extract w).opcode = 1#6
  · rw [dispatchKey_eq_regimm.mpr ⟨hop, rfl⟩]
    exact regimm _ (by simpa [hop] using h)
  · have hrange : 2 ≤ (extract w).opcode.toNat ∧ (extract w).opcode.toNat ≤ 7 := by bv_omega
    rw [(dispatchKey_eq_primary (by bv_omega) hop).mpr rfl]
    exact primary _ hrange

/-- So the table has a row that applies to such a word, under either option. -/
theorem exists_row_of_target (pseudo : Bool) (h : isBranch w ∨ isJump w) :
    ∃ row, (rowsFor pseudo).find? (fun row => row.matchesWord w) = some row := by
  refine Option.ne_none_iff_exists'.mp fun hnone => rowWithKey_of_target h ?_
  rw [rowsFor_find, Option.or_eq_none_iff] at hnone
  exact hnone.2

/-- The template of a row that applies to a word names the target of that word's kind (R113). -/
theorem targetKind_of_row {pseudo : Bool}
    (hfind : (rowsFor pseudo).find? (fun row => row.matchesWord w) = some row) :
    (isBranch w → targetKind row.template = some .branch) ∧ (isJump w → targetKind row.template = some .jump) ∧
      (¬isBranch w → ¬isJump w → targetKind row.template = none) := by
  have rows : ∀ row ∈ pseudoRows ++ baseRows, (isBranch row.pattern → targetKind row.template = some .branch) ∧
      (isJump row.pattern → targetKind row.template = some .jump) ∧
      (¬isBranch row.pattern → ¬isJump row.pattern → targetKind row.template = none) := by
    unfold isBranch isJump
    decide
  have hw := List.find?_some hfind
  obtain ⟨hmem, hkey⟩ := key_of_row_matches (List.mem_of_find?_eq_some hfind) hw
  rw [isBranch_congr hkey, isJump_congr hkey]
  exact rows row hmem

theorem tableRecord_target_of_find
    (h : (rowsFor s.pseudoInstructions).find? (fun row => row.matchesWord s.word) = some row) :
    s.tableRecord.target = (targetKind row.template).bind fun kind => (s.operand kind).query := by
  rw [tableRecord_of_find h, TableRow.record_target]

theorem tableRecord_target_of_isBranch (h : isBranch s.word) :
    s.tableRecord.target = some (branchTarget s.address (s.word.extractLsb' 0 16)) := by
  obtain ⟨row, hfind⟩ := exists_row_of_target s.pseudoInstructions (.inl h)
  obtain ⟨hbranch, -, -⟩ := targetKind_of_row hfind
  rw [tableRecord_target_of_find hfind, hbranch h]
  rfl

theorem tableRecord_target_of_isJump (h : isJump s.word) :
    s.tableRecord.target = some (jumpTarget s.address (s.word.extractLsb' 0 26)) := by
  obtain ⟨row, hfind⟩ := exists_row_of_target s.pseudoInstructions (.inr h)
  obtain ⟨-, hjump, -⟩ := targetKind_of_row hfind
  rw [tableRecord_target_of_find hfind, hjump h]
  rfl

theorem tableRecord_target_of_no_target (hbranch : ¬isBranch s.word) (hjump : ¬isJump s.word) :
    s.tableRecord.target = none := by
  cases hfind : (rowsFor s.pseudoInstructions).find? (fun row => row.matchesWord s.word) with
  | none =>
    simp only [State.tableRecord, tableRecord, hfind]
    rfl
  | some row =>
    obtain ⟨-, -, hnone⟩ := targetKind_of_row hfind
    rw [tableRecord_target_of_find hfind, hnone hbranch hjump]
    rfl

end Query

/-- Settles O42: the query is the target of the word's row, and its template names one exactly for branches and jumps. -/
theorem onlyTargetsAreQueried : Obligations.OnlyTargetsAreQueried := by
  unfold Obligations.OnlyTargetsAreQueried
  intro s t hstep
  have hquery : t.lookupRequest = s.tableRecord.target := congrArg Outputs.lookupRequest (outputs_of_step hstep)
  rw [hquery]
  exact ⟨tableRecord_target_of_isBranch, tableRecord_target_of_isJump, tableRecord_target_of_no_target⟩

/-! ### A repeated transaction (R49) -/

/-- The output ports are no input of a transaction (R49, 10_state.md R37). -/
theorem State.emit_tableRecord (r : Record) (q : Option Word) (s : State) : (s.emit r q).tableRecord = s.tableRecord := rfl

theorem State.emit_emit (r r' : Record) (q q' : Option Word) (s : State) : (s.emit r q).emit r' q' = s.emit r' q' := rfl

/-- With the table held a step writes the output ports and does nothing else. -/
theorem step_of_held {s : State} (h : s.symbolsDuring = none) :
    step s = .next (s.emit s.tableRecord s.tableRecord.target) := by
  rw [step_eq_tableRecord, State.settle_of_held (s.emit _ _) h]

/-- Settles O50: the second step writes over the output ports what the first wrote. -/
theorem transactionIsIdempotent : Obligations.TransactionIsIdempotent := by
  unfold Obligations.TransactionIsIdempotent
  intro s t hheld hstep
  obtain rfl : s.emit s.tableRecord s.tableRecord.target = t := by simpa [step_of_held hheld] using hstep
  rw [step_of_held (s := s.emit _ _) hheld, State.emit_tableRecord, State.emit_emit]

end Sys2Proof.Machine
end

section
/-! PROOF. Encoding and decoding are inverse (30_encoding.md R60, R70 to R72, 40_datapath.md R130): the dispatcher reads back
the base row of every encoded instruction and drops no bit of a word, and the pseudo stage moves between a base row and its
pseudo row, which stand for the same word. -/

namespace Sys2Proof

/-! ### The words of each format under the extractor -/

theorem extract_jWord (opcode : BitVec 6) (target : Target26) :
    extract (jWord opcode target) = { extract (jWord opcode target) with opcode := opcode, target := target } := by
  have hop := extract_jWord_opcode opcode target
  have htarget := extract_jWord_target opcode target
  generalize extract (jWord opcode target) = f at hop htarget ⊢
  subst hop htarget
  rfl

/-- A SYSCALL word is the R-type word of the fields its code is made of (R74). -/
theorem encode_syscall (f : Fields) : encode (.syscall (syscallCode f)) = rWord f.rs f.rt f.rd f.shamt 0x0C#6 := by
  apply BitVec.eq_of_toNat_eq
  simp only [encode, toNat_rWord, syscallCode, toNat_append_eq, BitVec.toNat_ofNat]
  omega

theorem exists_syscallCode (code : BitVec 20) : ∃ f : Fields, syscallCode f = code := by
  refine ⟨⟨0, code.extractLsb' 15 5, code.extractLsb' 10 5, code.extractLsb' 5 5, code.extractLsb' 0 5, 0, 0, 0⟩, ?_⟩
  have := code.isLt
  apply BitVec.eq_of_toNat_eq
  simp only [syscallCode, toNat_append_eq, BitVec.extractLsb'_toNat, Nat.shiftRight_eq_div_pow]
  omega

/-! ### Base rows and pseudo rows -/

/-- The base row whose word an instruction has: itself, or what a pseudo row stands for (R130). -/
def Instr.base (i : Instr) : Instr :=
  match i with
  | .nop => .sll 0 0 0 0
  | .move rs rd shamt => .add rs 0 rd shamt
  | .jalrOneOperand rs rt shamt => .jalr rs rt 31 shamt
  | .bal imm => .bgezal 0 imm
  | .b imm => .beq 0 0 imm
  | i => i

theorem Instr.base_wellFormed (i : Instr) : i.base.wellFormed false = true := by
  cases i <;> rfl

theorem Instr.base_of_wellFormed {i : Instr} (h : i.wellFormed false = true) : i.base = i := by
  cases i with
  | nop | move | jalrOneOperand | bal | b => cases h
  | _ => rfl

theorem substitute_base_of_wellFormed {i : Instr} (h : i.wellFormed true = true) : substitute i.base = i := by
  cases i with
  | sll | add | jalr | bgezal | beq => exact if_neg (by simpa [Instr.wellFormed] using h)
  | _ => rfl

theorem substitute_wellFormed (i : Instr) : (substitute i).wellFormed true = true := by
  cases i with
  | sll | add | jalr | bgezal | beq =>
    simp only [substitute]
    split
    next => rfl
    next h => simpa [Instr.wellFormed] using h
  | _ => rfl

theorem encode_ite {c : Bool} {i j : Instr} (h : c = true → encode i = encode j) :
    encode (if c then i else j) = encode j := by
  split
  next hc => exact h hc
  next => rfl

/-- The pseudo stage keeps the word: a pattern's row stands for the words the pattern picks out (R130, R131). -/
theorem encode_substitute (i : Instr) : encode (substitute i) = encode i := by
  cases i with
  | sll rs rt rd shamt =>
    refine encode_ite fun h => ?_
    obtain ⟨rfl, rfl, rfl, rfl⟩ : rs = 0 ∧ rt = 0 ∧ rd = 0 ∧ shamt = 0 := by simpa [nopPattern, and_assoc] using h
    rfl
  | add rs rt rd shamt =>
    refine encode_ite fun h => ?_
    obtain rfl : rt = 0 := by simpa [movePattern] using h
    rfl
  | jalr rs rt rd shamt =>
    refine encode_ite fun h => ?_
    obtain rfl : rd = 31 := by simpa [jalrPattern] using h
    rfl
  | bgezal rs imm =>
    refine encode_ite fun h => ?_
    obtain rfl : rs = 0 := by simpa [balPattern] using h
    rfl
  | beq rs rt imm =>
    refine encode_ite fun h => ?_
    obtain ⟨rfl, rfl⟩ : rs = 0 ∧ rt = 0 := by simpa [bPattern] using h
    rfl
  | _ => rfl

/-! ### The dispatcher inverts the encoder -/

/-- The dispatcher answers the base row of every encoded instruction. -/
theorem dispatch_encode (i : Instr) : dispatch (extract (encode i)) = .ok i.base := by
  cases i with
  | syscall code =>
    obtain ⟨f, rfl⟩ := exists_syscallCode code
    rw [encode_syscall, extract_rWord]
    rfl
  | j | jal | cp0 =>
    rw [encode, extract_jWord]
    rfl
  | sll | srl | sra | sllv | srlv | srav | jr | jalr | add | addu | sub | subu | and | or | xor | nor | slt | sltu
  | move | jalrOneOperand =>
    rw [encode, extract_rWord]
    rfl
  | nop => rfl
  | _ =>
    rw [encode, extract_iWord]
    rfl

/-- The decoder's answer is the dispatcher's, through the pseudo stage if the option is on (R140). -/
theorem decode_eq_ok_iff {pseudo : Bool} {w : Word} {i : Instr} :
    decode pseudo w = .ok i ↔ ∃ j, dispatch (extract w) = .ok j ∧ (if pseudo then substitute j else j) = i := by
  unfold decode
  cases dispatch (extract w) <;> simp

/-- Settles O12: the dispatcher answers the base row, and the pseudo stage gives the instruction back exactly when it is
well formed under the option. -/
theorem decodeInvertsEncode : Obligations.DecodeInvertsEncode := by
  unfold Obligations.DecodeInvertsEncode
  intro pseudo i hwf
  refine decode_eq_ok_iff.mpr ⟨i.base, dispatch_encode i, ?_⟩
  cases pseudo with
  | false => exact Instr.base_of_wellFormed hwf
  | true => exact substitute_base_of_wellFormed hwf

/-! ### The encoder inverts the dispatcher -/

section Word
variable {w : Word} {i : Instr}

theorem encode_of_dispatchSpecial (hop : (extract w).opcode = 0#6) (h : dispatchSpecial (extract w) = .ok i) :
    encode i = w := by
  have word {n : Nat} (hf : (extract w).funct.toNat = n) :
      rWord (extract w).rs (extract w).rt (extract w).rd (extract w).shamt (BitVec.ofNat 6 n) = w := by
    rw [← Machine.eq_ofNat_of_toNat hf, rWord_extract w hop]
  unfold dispatchSpecial at h
  split at h
  case h_9 hf =>
    cases h
    exact (encode_syscall _).trans (word hf)
  case h_20 => cases h
  all_goals
    rename_i hf
    cases h
    exact word hf

theorem encode_of_dispatchRegimm (hop : (extract w).opcode = 1#6) (h : dispatchRegimm (extract w) = .ok i) :
    encode i = w := by
  have word {n : Nat} (hrt : (extract w).rt.toNat = n) :
      iWord 1#6 (extract w).rs (BitVec.ofNat 5 n) (extract w).imm = w := by
    rw [← Machine.eq_ofNat_of_toNat hrt, ← hop, iWord_extract]
  unfold dispatchRegimm regimmSelector at h
  split at h
  case h_5 => cases h
  all_goals
    rename_i hrt
    cases h
    exact word hrt

/-- The instruction the dispatcher answers has every bit of the word. -/
theorem encode_of_dispatch (h : dispatch (extract w) = .ok i) : encode i = w := by
  have iType {n : Nat} (hop : (extract w).opcode.toNat = n) :
      iWord (BitVec.ofNat 6 n) (extract w).rs (extract w).rt (extract w).imm = w := by
    rw [← Machine.eq_ofNat_of_toNat hop, iWord_extract]
  have jType {n : Nat} (hop : (extract w).opcode.toNat = n) : jWord (BitVec.ofNat 6 n) (extract w).target = w := by
    rw [← Machine.eq_ofNat_of_toNat hop, jWord_extract]
  unfold dispatch at h
  split at h
  case h_1 hop => exact encode_of_dispatchSpecial (Machine.eq_ofNat_of_toNat hop) h
  case h_2 hop => exact encode_of_dispatchRegimm (Machine.eq_ofNat_of_toNat hop) h
  case h_3 hop | h_4 hop | h_17 hop =>
    cases h
    exact jType hop
  case h_30 => cases h
  all_goals
    rename_i hop
    cases h
    exact iType hop

/-- The dispatcher answers base rows only (R101). -/
theorem wellFormed_of_dispatch (h : dispatch (extract w) = .ok i) : i.wellFormed false = true := by
  have hbase : i.base = i := by
    obtain rfl := encode_of_dispatch h
    exact Except.ok.inj ((dispatch_encode i).symm.trans h)
  rw [← hbase]
  exact i.base_wellFormed

end Word

/-- Settles O13: the dispatcher's base row has the bits of the word, and the pseudo stage keeps them. -/
theorem encodeInvertsDecode : Obligations.EncodeInvertsDecode := by
  unfold Obligations.EncodeInvertsDecode
  intro pseudo w i h
  obtain ⟨j, hj, rfl⟩ := decode_eq_ok_iff.mp h
  cases pseudo with
  | false => exact ⟨encode_of_dispatch hj, wellFormed_of_dispatch hj⟩
  | true => exact ⟨(encode_substitute j).trans (encode_of_dispatch hj), substitute_wellFormed j⟩

theorem decode_of_encode_eq {pseudo : Bool} {w : Word} {i : Instr} (hw : encode i = w)
    (hwf : i.wellFormed pseudo = true) : decode pseudo w = .ok i :=
  hw ▸ decodeInvertsEncode pseudo i hwf

/-- Settles O14: each word is the word of the instruction it stands for. -/
theorem exampleWordsDecode : Obligations.ExampleWordsDecode := by
  unfold Obligations.ExampleWordsDecode
  refine ⟨?_, ?_, ?_, ?_, ?_, ?_, ?_, ?_, ?_, ?_⟩ <;> exact decode_of_encode_eq (by decide) rfl

end Sys2Proof
end

section
/-! PROOF. The instruction formats as the block reads them (30_encoding.md): the fields as numbers (R61 to R69), the dashes of
the three maps as the words without a row (R70 to R73), and the don't-care bits as bits no row tests or renders (R74). -/

namespace Sys2Proof.Machine

open Sys2Proof.Stated

/-! ### The fields as numbers -/

/-- A field at the low end of a word. -/
theorem toNat_lowField (w : Word) (n : Nat) : (w.extractLsb' 0 n).toNat = w.toNat % 2 ^ n := by
  rw [toNat_field, Nat.pow_zero, Nat.div_one]

/-- The immediate as a signed number, by its bit 15 (R67). -/
theorem simm_extract (w : Word) : simm (extract w).imm =
    if (w.toNat / 2 ^ 15) % 2 = 1 then ((w.toNat % 2 ^ 16 : Nat) : Int) - 65536 else ((w.toNat % 2 ^ 16 : Nat) : Int) := by
  have hfield : (extract w).imm.toNat = w.toNat % 2 ^ 16 := toNat_lowField w 16
  have hsign : (extract w).imm.msb = decide (w.toNat / 2 ^ 15 % 2 = 1) := by
    rw [BitVec.msb_eq_decide, hfield, decide_eq_decide]
    omega
  simp only [simm, hfield, hsign, decide_eq_true_eq]

/-- Settles O17: each field is a quotient and remainder of the word. -/
theorem fieldsAreTheirBits : Obligations.FieldsAreTheirBits := by
  unfold Obligations.FieldsAreTheirBits
  intro w
  obtain ⟨hmin, hmax⟩ := simm_range (extract w).imm
  exact ⟨(opcodeOf_eq w).symm, toNat_field w 21 5, toNat_field w 16 5, toNat_field w 11 5, toNat_field w 6 5,
    toNat_lowField w 6, toNat_lowField w 16, toNat_lowField w 26, simm_extract w, hmin, hmax⟩

/-! ### The dashes of the three maps -/

theorem functOf_eq (w : Word) : functOf w = (extract w).funct.toNat := (toNat_lowField w 6).symm

/-- A word has no base row exactly when it is a dash of one of the maps (R70 to R73). -/
theorem no_row_iff_dash {w : Word} :
    rowWithKey baseRows (dispatchKey w) = none ↔ dashOpcode w ∨ dashFunct w ∨ dashSelector w := by
  simp only [dashOpcode, dashFunct, dashSelector, opcodeOf_eq, functOf_eq, rtOf_eq]
  by_cases h0 : (extract w).opcode = 0#6
  · have special : ∀ f : BitVec 6, rowWithKey baseRows (0#6, f) = none ↔
        f.toNat = 0x01 ∨ f.toNat = 0x05 ∨ f.toNat = 0x0A ∨ f.toNat = 0x0B ∨ (0x0D ≤ f.toNat ∧ f.toNat ≤ 0x1F) ∨
          f.toNat = 0x28 ∨ f.toNat = 0x29 ∨ 0x2C ≤ f.toNat := by decide
    rw [dispatchKey_eq_special.mpr ⟨h0, rfl⟩, special]
    simp [h0]
  by_cases h1 : (extract w).opcode = 1#6
  · have regimm : ∀ sel : RegIx, rowWithKey baseRows (1#6, sel.zeroExtend 6) = none ↔
        (0x02 ≤ sel.toNat ∧ sel.toNat ≤ 0x0F) ∨ 0x12 ≤ sel.toNat := by decide
    rw [dispatchKey_eq_regimm.mpr ⟨h1, rfl⟩, regimm]
    simp [h1]
  · have primary : ∀ op : BitVec 6, op ≠ 0#6 → op ≠ 1#6 → (rowWithKey baseRows (op, 0#6) = none ↔
        (0x11 ≤ op.toNat ∧ op.toNat ≤ 0x1F) ∨ op.toNat = 0x27 ∨ op.toNat = 0x2C ∨ op.toNat = 0x2D ∨ 0x2F ≤ op.toNat) := by
      decide
    have n0 : (extract w).opcode.toNat ≠ 0 := by bv_omega
    have n1 : (extract w).opcode.toNat ≠ 1 := by bv_omega
    rw [(dispatchKey_eq_primary h0 h1).mpr rfl, primary _ h0 h1]
    simp [n0, n1]

/-- A word with a base row has an applicable row under either option. -/
theorem exists_row_of_key {w : Word} (pseudo : Bool) (h : rowWithKey baseRows (dispatchKey w) ≠ none) :
    ∃ row, (rowsFor pseudo).find? (fun row => row.matchesWord w) = some row := by
  refine Option.ne_none_iff_exists'.mp fun hnone => h ?_
  rw [rowsFor_find, Option.or_eq_none_iff] at hnone
  exact hnone.2

/-- Settles O9: the dashes are the words without a row, and every row's record is an instruction. -/
theorem exactlyTheDashesAreUnsupported : Obligations.ExactlyTheDashesAreUnsupported := by
  unfold Obligations.ExactlyTheDashesAreUnsupported
  intro s
  rw [← no_row_iff_dash, step_eq_tableRecord]
  constructor
  · intro hnone
    rw [tableRecord_of_no_row hnone]
    rfl
  · intro hsome
    obtain ⟨row, hfind⟩ := exists_row_of_key s.pseudoInstructions hsome
    rw [tableRecord_of_find hfind]
    exact ⟨_, _, _, _, rfl⟩

/-! ### Words that agree but for don't-care bits -/

/-- `w'` agrees with `w` on every bit that is not a don't-care bit of `w` (R74). -/
def AgreesButDontCare (w w' : Word) : Prop :=
  w &&& ~~~(dontCare w) = w' &&& ~~~(dontCare w)

/-- The bits of a word an operand is cut from (R61 to R69). -/
def OperandKind.bits : OperandKind → Word
  | .rd => 0x0000F800
  | .rs => 0x03E00000
  | .rt => 0x001F0000
  | .shamt => 0x000007C0
  | .simm => 0x0000FFFF
  | .mem => 0x03E0FFFF
  | .branch => 0x0000FFFF
  | .jump => 0x03FFFFFF

section DontCare
variable {w w' m d : Word}

/-- Bits apart from those in which two words may differ. -/
theorem and_congr_of_disjoint (h : w &&& ~~~d = w' &&& ~~~d) (hm : m &&& d = 0#32) : w &&& m = w' &&& m := by
  have hbits : ~~~d &&& m = m := by
    apply BitVec.eq_of_getLsbD_eq
    intro i hi
    have hbit : (m &&& d).getLsbD i = false := by rw [hm, BitVec.getLsbD_zero]
    rw [BitVec.getLsbD_and] at hbit
    cases d.getLsbD i <;> simp_all
  rw [← hbits, ← BitVec.and_assoc, h, BitVec.and_assoc]

/-- A field inside a mask. -/
theorem extractLsb'_congr {lo n : Nat} (h : w &&& m = w' &&& m) (hm : m.extractLsb' lo n = BitVec.allOnes n) :
    w.extractLsb' lo n = w'.extractLsb' lo n := by
  have hfield := congrArg (BitVec.extractLsb' lo n) h
  rwa [BitVec.extractLsb'_and, BitVec.extractLsb'_and, hm, BitVec.and_allOnes, BitVec.and_allOnes] at hfield

/-- An operand is built from its bits of the word and from no other. -/
theorem buildOperand_congr {address : Word} {lookup : Word → Option Label} {kind : OperandKind}
    (h : w &&& kind.bits = w' &&& kind.bits) :
    buildOperand w address lookup kind = buildOperand w' address lookup kind := by
  rw [buildOperand_eq, buildOperand_eq]
  cases kind with
  | rd => exact congrArg Operand.reg (extractLsb'_congr h rfl)
  | rs => exact congrArg Operand.reg (extractLsb'_congr h rfl)
  | rt => exact congrArg Operand.reg (extractLsb'_congr h rfl)
  | shamt => exact congrArg Operand.shamt (extractLsb'_congr h rfl)
  | simm => exact congrArg (fun imm => Operand.imm (simm imm)) (extractLsb'_congr h rfl)
  | mem =>
    exact congrArg₂ (fun imm => Operand.mem (simm imm)) (extractLsb'_congr h rfl) (extractLsb'_congr h rfl)
  | branch =>
    have himm : (extract w).imm = (extract w').imm := extractLsb'_congr h rfl
    simp only [himm]
  | jump =>
    have htarget : (extract w).target = (extract w').target := extractLsb'_congr h rfl
    simp only [htarget]

theorem functOf_congr (h : dispatchKey w = dispatchKey w') (hop : opcodeOf w = 0) : functOf w = functOf w' := by
  have hop0 : (extract w).opcode = 0#6 := BitVec.eq_of_toNat_eq (opcodeOf_eq w ▸ hop)
  have hkey := dispatchKey_eq_special.mpr ⟨hop0, rfl⟩
  rw [functOf_eq, functOf_eq, (dispatchKey_eq_special.mp (h.symm.trans hkey)).2]

/-- Which bits are don't-care is told by the dispatch key. -/
theorem dontCare_congr (h : dispatchKey w = dispatchKey w') : dontCare w = dontCare w' := by
  unfold dontCare
  rw [← opcodeOf_congr h]
  split
  next hop => rw [functOf_congr h hop]
  all_goals rfl

/-- An unsupported word has no don't-care bits. -/
theorem dontCare_of_no_row (h : rowWithKey baseRows (dispatchKey w) = none) : dontCare w = 0#32 := by
  have hdash := no_row_iff_dash.mp h
  simp only [dashOpcode, dashFunct, dashSelector] at hdash
  unfold dontCare
  split
  · split
    case h_20 => rfl
    all_goals omega
  case h_6 => rfl
  all_goals omega

/-- No row but NOP's tests a don't-care bit of its words. -/
theorem mask_dontCare : ∀ row ∈ pseudoRows ++ baseRows, row.mn ≠ .NOP → row.mask &&& dontCare row.pattern = 0 := by
  decide

/-- No row renders a don't-care bit of its words. -/
theorem bits_dontCare : ∀ row ∈ pseudoRows ++ baseRows, ∀ kind ∈ row.template, kind.bits &&& dontCare row.pattern = 0 := by
  decide

theorem matchesWord_congr {row : TableRow} (h : AgreesButDontCare w w') (hrow : row ∈ pseudoRows ++ baseRows)
    (hnop : row.mn ≠ .NOP) (hkey : dispatchKey w = dispatchKey row.pattern) :
    row.matchesWord w = row.matchesWord w' := by
  unfold AgreesButDontCare at h
  rw [dontCare_congr hkey] at h
  rw [TableRow.matchesWord, TableRow.matchesWord, and_congr_of_disjoint h (mask_dontCare row hrow hnop)]

theorem mn_ne_nop_of_base : ∀ row ∈ baseRows, row.mn ≠ .NOP := by decide

/-- The dispatcher never tests a don't-care bit (R74). -/
theorem dispatchKey_congr (h : AgreesButDontCare w w') : dispatchKey w = dispatchKey w' := by
  cases hkey : rowWithKey baseRows (dispatchKey w) with
  | none =>
    rw [AgreesButDontCare, dontCare_of_no_row hkey, BitVec.not_zero, BitVec.and_allOnes, BitVec.and_allOnes] at h
    rw [h]
  | some row =>
    have hrow : row ∈ baseRows := List.mem_of_find?_eq_some hkey
    have hw : dispatchKey w = dispatchKey row.pattern := by simpa using List.find?_some hkey
    have hmatch := matchesWord_congr h (List.mem_append_right _ hrow) (mn_ne_nop_of_base row hrow) hw
    have hw' : row.matchesWord w' = true := hmatch ▸ (baseRow_matches_iff_key row hrow).mpr hw
    exact hw.trans ((baseRow_matches_iff_key row hrow).mp hw').symm

/-- A pseudo row's test tells no two such words apart, where NOP's, which tests the whole word, passes for neither. -/
theorem pseudoRow_matches_congr (h : AgreesButDontCare w w') (hw : w ≠ 0) (hw' : w' ≠ 0) {row : TableRow}
    (hrow : row ∈ pseudoRows) : row.matchesWord w = row.matchesWord w' := by
  by_cases hnop : row.mn = .NOP
  · have nop : ∀ row ∈ pseudoRows, row.mn = .NOP → row = ⟨.NOP, 0x00000000, 0xFFFFFFFF, []⟩ := by decide
    rw [nop row hrow hnop, Bool.eq_iff_iff, nop_matches, nop_matches]
    exact iff_of_false hw hw'
  by_cases hkey : dispatchKey w = dispatchKey row.pattern
  · exact matchesWord_congr h (List.mem_append_left _ hrow) hnop hkey
  · have hkey' : dispatchKey w' ≠ dispatchKey row.pattern := dispatchKey_congr h ▸ hkey
    rw [Bool.eq_iff_iff]
    exact iff_of_false (mt (pseudoRow_key_of_matches row hrow) hkey) (mt (pseudoRow_key_of_matches row hrow) hkey')

theorem baseRow_matches_congr (h : AgreesButDontCare w w') {row : TableRow} (hrow : row ∈ baseRows) :
    row.matchesWord w = row.matchesWord w' := by
  rw [Bool.eq_iff_iff, baseRow_matches_iff_key row hrow, baseRow_matches_iff_key row hrow, dispatchKey_congr h]

/-- So the same row applies to both. -/
theorem rowsFor_find_congr {pseudo : Bool} (h : AgreesButDontCare w w') (hne : pseudo = true → w ≠ 0 ∧ w' ≠ 0) :
    (rowsFor pseudo).find? (fun row => row.matchesWord w) = (rowsFor pseudo).find? (fun row => row.matchesWord w') := by
  refine List.find?_congr fun row hrow => ?_
  cases pseudo with
  | false => exact baseRow_matches_congr h hrow
  | true =>
    obtain ⟨hw, hw'⟩ := hne rfl
    rcases List.mem_append.mp hrow with hrow | hrow
    · exact pseudoRow_matches_congr h hw hw' hrow
    · exact baseRow_matches_congr h hrow

/-- The record has no don't-care bit in it. -/
theorem tableRecord_congr {pseudo : Bool} (address : Word) (lookup : Word → Option Label) (h : AgreesButDontCare w w')
    (hne : pseudo = true → w ≠ 0 ∧ w' ≠ 0) :
    tableRecord pseudo w address lookup = tableRecord pseudo w' address lookup := by
  unfold tableRecord
  rw [← rowsFor_find_congr h hne]
  cases hfind : (rowsFor pseudo).find? (fun row => row.matchesWord w) with
  | none => rfl
  | some row =>
    have hmatch := List.find?_some hfind
    obtain ⟨hrow, hkey⟩ := key_of_row_matches (List.mem_of_find?_eq_some hfind) hmatch
    unfold AgreesButDontCare at h
    rw [dontCare_congr hkey] at h
    refine congrArg (Record.insn row.mn) (List.map_congr_left fun kind hkind => buildOperand_congr ?_)
    exact and_congr_of_disjoint h (bits_dontCare row hrow kind hkind)

end DontCare

/-- Settles O47: the words have the same row, and its template has none of the bits in which they differ. -/
theorem dontCareBitsHaveNoEffect : Obligations.DontCareBitsHaveNoEffect := by
  unfold Obligations.DontCareBitsHaveNoEffect
  intro s t t' w hagree hne hstep hstep'
  have hrecord : s.tableRecord = State.tableRecord { s with word := w } :=
    tableRecord_congr s.address s.lookup hagree hne
  rw [outputs_of_step hstep, outputs_of_step hstep', hrecord]

end Sys2Proof.Machine
end

section
/-! PROOF. The datapath of a transaction (40_datapath.md): a step runs the decoded instruction (R140) or ends in the sentinel
(R102), it answers the record of the first table row that applies (R101), of which at most one is a base row, and the two
options choose among the rows (R130, R131, R133) and the spelling of registers (R142). -/

namespace Sys2Proof.Machine

open Sys2Proof.Stated

/-! ### One step (R102, R140) -/

/-- The port list of the statements is what `emit` writes. -/
theorem State.emit_eq_ports (r : Record) (q : Option Word) (s : State) :
    s.emit r q = ports s r (lineText s.useRegNames r) q := rfl

/-- Settles O15: the two-level dispatch and the rows' tests read the same bits of a word. -/
theorem stepFollowsOpcodeTable : Obligations.StepFollowsOpcodeTable := by
  unfold Obligations.StepFollowsOpcodeTable
  intro s
  rw [step_eq_tableRecord, State.emit_eq_ports]
  rfl

/-- The end of a table change (R50, log entry 12). -/
theorem State.settle_of_changing {s : State} {new : SymTab} (h : s.symbolsDuring = some new) :
    s.settle = { s with symbols := new, symbolsDuring := none, tableChanges := s.tableChanges + 1 } := by
  simp [State.settle, h]

/-- Settles O6: every instruction completes, and `settle` is the end of a table change. -/
theorem stepRunsTheDecodedInstruction : Obligations.StepRunsTheDecodedInstruction := by
  unfold Obligations.StepRunsTheDecodedInstruction
  intro s i hdecode
  obtain ⟨r, hexec, -, hstep⟩ := step_of_decode hdecode
  exact ⟨s.emit r r.target, hexec, hstep, State.settle_of_held _, fun _ => State.settle_of_changing⟩

/-- The pseudo stage makes no word unsupported and none supported: the cause is the dispatcher's. -/
theorem dispatch_of_decode_error {pseudo : Bool} {w : Word} {c : Cause} (h : decode pseudo w = .error c) :
    dispatch (extract w) = .error c := by
  unfold decode at h
  cases hd : dispatch (extract w) with
  | ok i => simp [hd] at h
  | error c' => simpa [hd] using h

/-- Settles O8: an error of the dispatcher ends the step, under either option. -/
theorem unsupportedWordEndsInSentinel : Obligations.UnsupportedWordEndsInSentinel := by
  unfold Obligations.UnsupportedWordEndsInSentinel
  intro s pseudo c h
  rw [step_of_dispatch_error (dispatch_of_decode_error h), State.emitUnsupported_eq, State.emit_eq_ports]
  rfl

/-! ### The base rows are disjoint -/

/-- A base row that matches a word is the one with the word's dispatch key, for no two base rows share a key. -/
theorem rowWithKey_of_baseRow_matches {w : Word} {row : TableRow} (hrow : row ∈ baseRows) (hw : row.matchesWord w = true) :
    rowWithKey baseRows (dispatchKey w) = some row := by
  have own : ∀ row ∈ baseRows, rowWithKey baseRows (dispatchKey row.pattern) = some row := by decide
  rw [(baseRow_matches_iff_key row hrow).mp hw, own row hrow]

/-- Settles O16: both rows are the row with the word's key. -/
theorem baseRowsDoNotOverlap : Obligations.BaseRowsDoNotOverlap := by
  unfold Obligations.BaseRowsDoNotOverlap
  intro w row hrow row' hrow' hw hw'
  exact Option.some.inj ((rowWithKey_of_baseRow_matches hrow hw).symm.trans (rowWithKey_of_baseRow_matches hrow' hw'))

/-! ### `pseudo_instructions` chooses among the rows (R130, R131, R133) -/

/-- The record after a step is the table's. -/
theorem record_of_step {s t : State} (h : step s = .next t) : t.record = some s.tableRecord :=
  congrArg Outputs.record (outputs_of_step h)

/-- The record the first matching row of a list gives. -/
def recordOfRows (rows : List TableRow) (w address : Word) (lookup : Word → Option Label) : Record :=
  (rows.find? (fun row => row.matchesWord w)).elim .unsupported
    (fun row => .insn row.mn (row.template.map (buildOperand w address lookup)))

section RecordOfRows
variable (w address : Word) (lookup : Word → Option Label)

theorem tableRecord_eq_recordOfRows (pseudo : Bool) :
    tableRecord pseudo w address lookup = recordOfRows (rowsFor pseudo) w address lookup := by
  unfold tableRecord recordOfRows
  cases (rowsFor pseudo).find? (fun row => row.matchesWord w) <;> rfl

theorem recordOfRows_cons (row : TableRow) (rows : List TableRow) :
    recordOfRows (row :: rows) w address lookup =
      if row.matchesWord w then .insn row.mn (row.template.map (buildOperand w address lookup))
      else recordOfRows rows w address lookup := by
  unfold recordOfRows
  rw [List.find?_cons]
  cases row.matchesWord w <;> rfl

/-- Only a row of the list makes an instruction. -/
theorem exists_row_of_recordOfRows {rows : List TableRow} {mn : Mnemonic} {ops : List Operand}
    (h : recordOfRows rows w address lookup = .insn mn ops) :
    ∃ row ∈ rows, row.matchesWord w = true ∧ mn = row.mn ∧ ops = row.template.map (buildOperand w address lookup) := by
  unfold recordOfRows at h
  cases hfind : rows.find? (fun row => row.matchesWord w) with
  | none =>
    rw [hfind] at h
    cases h
  | some row =>
    rw [hfind] at h
    cases h
    have hw := List.find?_some hfind
    exact ⟨row, List.mem_of_find?_eq_some hfind, hw, rfl, rfl⟩

end RecordOfRows

/-- Settles O45: with the option 0 the rows are the base rows, and no pseudo mnemonic has one. -/
theorem pseudoOffRendersInFull : Obligations.PseudoOffRendersInFull := by
  unfold Obligations.PseudoOffRendersInFull
  intro s t mn ops hoff hstep hrecord
  rw [record_of_step hstep, State.tableRecord, hoff, tableRecord_eq_recordOfRows] at hrecord
  obtain ⟨row, hmem, hw, rfl, rfl⟩ := exists_row_of_recordOfRows _ _ _ (Option.some.inj hrecord)
  have base : ∀ row ∈ baseRows, row.mn ≠ .NOP ∧ row.mn ≠ .MOVE ∧ row.mn ≠ .B ∧ row.mn ≠ .BAL := by decide
  exact ⟨⟨row, hmem, hw, rfl, rfl⟩, base row hmem⟩

/-- With the option on, the five pseudo rows are tried first (R130); no other word changes (R131). -/
theorem tableRecord_true (w address : Word) (lookup : Word → Option Label) :
    tableRecord true w address lookup =
      if w = 0 then .insn .NOP []
      else if w &&& 0xFC1F003F = 0x00000020 then .insn .MOVE ([.rd, .rs].map (buildOperand w address lookup))
      else if w &&& 0xFC00F83F = 0x0000F809 then .insn .JALR ([.rs].map (buildOperand w address lookup))
      else if w &&& 0xFFFF0000 = 0x04110000 then .insn .BAL ([.branch].map (buildOperand w address lookup))
      else if w &&& 0xFFFF0000 = 0x10000000 then .insn .B ([.branch].map (buildOperand w address lookup))
      else tableRecord false w address lookup := by
  have hnop := nop_matches w []
  rw [tableRecord_eq_recordOfRows, tableRecord_eq_recordOfRows]
  change recordOfRows (pseudoRows ++ baseRows) w address lookup = _
  simp only [pseudoRows, List.cons_append, List.nil_append, recordOfRows_cons, hnop]
  simp only [TableRow.matchesWord, beq_iff_eq]
  rfl

/-- Settles O46: the pseudo rows' tests are the five patterns, and behind them stand the base rows. -/
theorem pseudoOnChangesFivePatternsOnly : Obligations.PseudoOnChangesFivePatternsOnly := by
  unfold Obligations.PseudoOnChangesFivePatternsOnly
  intro s t t' hoff hstep hstep'
  have hoff' : s.tableRecord = tableRecord false s.word s.address s.lookup := by rw [State.tableRecord, hoff]
  have hon : State.tableRecord { s with pseudoInstructions := true } = tableRecord true s.word s.address s.lookup := rfl
  rw [record_of_step hstep, record_of_step hstep', hoff', hon, tableRecord_true, buildOperand_eq_operand]
  simp only [apply_ite some]
  rfl

/-! ### `use_reg_names` chooses a spelling (R142) -/

/-- An operand that is spelled without the register multiplexer (R103). -/
def Operand.NamesNoRegister (o : Operand) : Prop :=
  (∀ i, o ≠ .reg i) ∧ (∀ i, o ≠ .shamt i) ∧ ∀ off i, o ≠ .mem off i

theorem render_of_namesNoRegister {o : Operand} (h : o.NamesNoRegister) (names names' : Bool) :
    render names o = render names' o := by
  obtain ⟨hreg, hshamt, hmem⟩ := h
  cases o with
  | reg i => exact absurd rfl (hreg i)
  | shamt i => exact absurd rfl (hshamt i)
  | mem off i => exact absurd rfl (hmem off i)
  | imm | brTgt | jTgt => rfl

theorem operandsText_of_namesNoRegister {ops : List Operand} (h : ∀ o ∈ ops, o.NamesNoRegister) (names names' : Bool) :
    operandsText names ops = operandsText names' ops := by
  induction ops with
  | nil => rfl
  | cons o rest ih =>
    obtain ⟨ho, hrest⟩ := List.forall_mem_cons.mp h
    cases rest with
    | nil => exact render_of_namesNoRegister ho names names'
    | cons => rw [operandsText, operandsText, render_of_namesNoRegister ho names names', ih hrest]

theorem lineText_of_namesNoRegister {mn : Mnemonic} {ops : List Operand} (h : ∀ o ∈ ops, o.NamesNoRegister)
    (names names' : Bool) : lineText names (.insn mn ops) = lineText names' (.insn mn ops) := by
  cases ops with
  | nil => rfl
  | cons => rw [lineText, lineText, operandsText_of_namesNoRegister h names names']

/-- Settles O44: the record does not depend on the option, and a line reads it for register operands only. -/
theorem regNamesChangeSpellingOnly : Obligations.RegNamesChangeSpellingOnly := by
  unfold Obligations.RegNamesChangeSpellingOnly
  refine ⟨fun s t t' hstep hstep' => ?_, fun r hplain => ?_⟩
  · have hrecord : State.tableRecord { s with useRegNames := !s.useRegNames } = s.tableRecord := rfl
    obtain ⟨htext, hrec, hquery⟩ := Outputs.mk.inj (outputs_of_step hstep)
    obtain ⟨htext', hrec', hquery'⟩ := Outputs.mk.inj (outputs_of_step hstep')
    rw [hrecord] at htext' hrec' hquery'
    exact ⟨hrec'.trans hrec.symm, hquery'.trans hquery.symm, s.tableRecord, hrec, htext, htext'⟩
  · cases r with
    | unsupported => rfl
    | insn mn ops => exact lineText_of_namesNoRegister (hplain mn ops rfl) true false

end Sys2Proof.Machine
end

section
/-! PROOF. The target arithmetic (40_datapath.md R110, R111, R114): both targets as numbers, and the laws that follow. -/

namespace Sys2Proof.Machine

/-- The branch offset in bytes: its range (R110, R114). -/
theorem branchOffset_range (imm : Imm16) : -131072 ≤ 4 * simm imm ∧ 4 * simm imm ≤ 131068 := by
  obtain ⟨hmin, hmax⟩ := simm_range imm
  omega

/-- The branch target as a number (R110). -/
theorem branchTarget_toNat (address : Word) (imm : Imm16) :
    ((branchTarget address imm).toNat : Int) = ((address.toNat : Int) + 4 + 4 * simm imm) % 2 ^ 32 := by
  rw [branchTarget_eq, BitVec.toNat_add, BitVec.toNat_ofInt]
  omega

/-- Settles O34: the offset is a multiple of 4, so the low two bits are the address's. -/
theorem branchTargetIsItsFormula : Obligations.BranchTargetIsItsFormula := by
  unfold Obligations.BranchTargetIsItsFormula
  intro address imm
  have hsum := branchTarget_toNat address imm
  have hlow : (branchTarget address imm).toNat % 4 = address.toNat % 4 := by omega
  exact ⟨hsum, hlow, branchOffset_range imm⟩

/-- The jump target's top 4 bits are the address's (R111, R114). -/
theorem jumpTarget_region (address : Word) (target : Target26) :
    (jumpTarget address target).extractLsb' 28 4 = address.extractLsb' 28 4 := by
  have := target.isLt
  apply BitVec.eq_of_toNat_eq
  rw [toNat_field, toNat_field, jumpTarget_toNat]
  omega

/-- The jump target is word-aligned (R111). -/
theorem jumpTarget_aligned (address : Word) (target : Target26) : (jumpTarget address target).extractLsb' 0 2 = 0 := by
  apply BitVec.eq_of_toNat_eq
  simp only [toNat_lowField, jumpTarget_toNat, BitVec.ofNat_eq_ofNat, BitVec.toNat_ofNat]
  omega

/-- Settles O35: the sum, and the two ends of it. -/
theorem jumpTargetIsItsFormula : Obligations.JumpTargetIsItsFormula := by
  unfold Obligations.JumpTargetIsItsFormula
  intro address target
  exact ⟨jumpTarget_toNat address target, jumpTarget_region address target, jumpTarget_aligned address target⟩

/-- A branch reaches as far from its own address as its offset and 4 say (R114). -/
theorem branchTarget_sub (address : Word) (imm : Imm16) :
    branchTarget address imm - address = BitVec.ofInt 32 (4 + 4 * simm imm) := by
  rw [branchTarget_eq]
  exact add_sub_cancel_left _ _

/-- Settles O36: each law is the branch target's sum at one offset, or the jump target's region. -/
theorem targetArithmeticLaws : Obligations.TargetArithmeticLaws := by
  unfold Obligations.TargetArithmeticLaws
  intro address imm target
  obtain ⟨hmin, hmax⟩ := branchOffset_range imm
  refine ⟨⟨hmin, hmax⟩, branchTarget_sub address imm, ⟨by omega, by omega⟩, fun h => ?_, fun h => ?_, fun h => ?_,
    fun h => ?_, jumpTarget_region address target⟩
  · rw [branchTarget_eq, h]
    exact add_zero address
  all_goals
    rw [branchTarget_eq, h]
    rfl

end Sys2Proof.Machine
end

section
/-! PROOF. Numbers and lines as text (40_datapath.md R120 to R123): `dec_u` is the shortest digit string of its value, `dec_s`
tells its number, and a line tells its mnemonic because no name holds a space. -/

namespace Sys2Proof.Machine

open Sys2Proof.Stated

/-! ### `dec_u` (R121) -/

theorem digits_allDigits (fuel n : Nat) : allDigits (digits fuel n) := by
  have digit : ∀ d < 10, allDigits [digitChar d] := by
    simp only [allDigits, List.mem_singleton, forall_eq]
    decide
  induction fuel generalizing n with
  | zero => exact digit _ (Nat.mod_lt n (by decide))
  | succ fuel ih =>
    unfold digits
    split
    next hn => exact digit n hn
    next =>
      intro c hc
      rcases List.mem_append.mp hc with hc | hc
      · exact ih _ c hc
      · exact digit _ (Nat.mod_lt n (by decide)) c hc

theorem decU_toList (n : Nat) : (decU n).toList = digits n n := by simp [decU]

theorem decU_allDigits (n : Nat) : allDigits (decU n).toList := decU_toList n ▸ digits_allDigits n n

theorem decU_value (n : Nat) : digitsValue (decU n).toList = n := decU_toList n ▸ digitsValue_digits (Nat.le_refl n)

theorem digitsValue_concat (cs : List Char) (c : Char) : digitsValue (cs ++ [c]) = 10 * digitsValue cs + (c.toNat - 48) := by
  simp [digitsValue]

/-- A digit string of a value is no shorter than `digits`: without its last digit it is one of the value's quotient by 10. -/
theorem digits_length_le {fuel : Nat} {cs : List Char} (hne : cs ≠ []) (hcs : allDigits cs) (hfuel : digitsValue cs ≤ fuel) :
    (digits fuel (digitsValue cs)).length ≤ cs.length := by
  induction fuel generalizing cs with
  | zero => exact List.length_pos_iff.mpr hne
  | succ fuel ih =>
    unfold digits
    split
    next => exact List.length_pos_iff.mpr hne
    next hbig =>
      obtain ⟨ds, d, rfl⟩ := (List.eq_nil_or_concat' cs).resolve_left hne
      rw [digitsValue_concat] at hfuel hbig ⊢
      obtain ⟨hlow, hhigh⟩ := hcs d (by simp)
      have hquot : (10 * digitsValue ds + (d.toNat - 48)) / 10 = digitsValue ds := by omega
      have hds : ds ≠ [] := by
        rintro rfl
        simp only [digitsValue, List.foldl_nil] at hbig
        omega
      rw [hquot, List.length_append, List.length_append]
      exact Nat.add_le_add_right
        (ih hds (fun c hc => hcs c (List.mem_append_left _ hc)) (by omega)) 1

theorem decU_shortest {n : Nat} {cs : List Char} (hne : cs ≠ []) (hcs : allDigits cs) (hvalue : digitsValue cs = n) :
    (decU n).toList.length ≤ cs.length := by
  rw [decU_toList, ← hvalue]
  exact digits_length_le hne hcs (Nat.le_refl _)

/-- A leading zero would leave a shorter string of the same value behind it. -/
theorem decU_no_leading_zero {n : Nat} {cs : List Char} (h : (decU n).toList = '0' :: cs) : n = 0 ∧ cs = [] := by
  have hvalue : digitsValue cs = n := by
    rw [← decU_value n, h]
    rfl
  have hnil : cs = [] := by
    by_contra hne
    have hcs : allDigits cs := fun c hc => decU_allDigits n c (h ▸ List.mem_cons_of_mem _ hc)
    have hle := decU_shortest hne hcs hvalue
    rw [h, List.length_cons] at hle
    omega
  exact ⟨by rw [← hvalue, hnil]; rfl, hnil⟩

/-- Settles O37: digits by induction on the fuel, and no string of the value is shorter. -/
theorem unsignedDecimalIsShortest : Obligations.UnsignedDecimalIsShortest := by
  unfold Obligations.UnsignedDecimalIsShortest
  exact ⟨rfl, fun n => ⟨decU_allDigits n, decU_value n, fun _ => decU_no_leading_zero, fun _ => decU_shortest⟩⟩

/-! ### `dec_s` (R120) -/

theorem decS_ofNat (n : Nat) : decS n = decU n := by simp [decS]

theorem decS_neg (n : Nat) : decS (-(n + 1 : Nat)) = "-" ++ decU (n + 1) := by
  unfold decS
  rw [if_pos (by omega), neg_neg, Int.toNat_natCast]

theorem not_mem_decU_of_not_digit {c : Char} (hc : ¬(48 ≤ c.toNat ∧ c.toNat ≤ 57)) (n : Nat) : c ∉ (decU n).toList :=
  fun hmem => hc (decU_allDigits n c hmem)

/-- The sign tells the negative numbers from the others, and the digits tell the absolute value. -/
theorem decS_injective : Function.Injective decS := by
  have sign {m n : Nat} : decU m ≠ "-" ++ decU n := fun h =>
    not_mem_decU_of_not_digit (c := '-') (by decide) m (by simp [h])
  intro v v' h
  unfold decS at h
  split at h <;> split at h
  · have hopposite := decU_injective ((String.append_right_inj _).mp h)
    omega
  · exact absurd h.symm sign
  · exact absurd h sign
  · have hvalue := decU_injective h
    omega

/-- Settles O38: neither a digit nor the sign is a `+`. -/
theorem signedDecimalSpells : Obligations.SignedDecimalSpells := by
  unfold Obligations.SignedDecimalSpells
  have plus (n : Nat) : '+' ∉ (decU n).toList := not_mem_decU_of_not_digit (by decide) n
  refine ⟨decS_ofNat, decS_neg, by decide, by decide, fun v => ?_, fun v v' h => decS_injective h⟩
  unfold decS
  split
  · exact not_mem_append (by decide) (plus _)
  · exact plus _

/-! ### A line tells its mnemonic (R122, R123) -/

/-- Each mnemonic has a row of the table, and the first row with its name is one of its own. -/
theorem mnemonicText_find (mn : Mnemonic) :
    ((pseudoRows ++ baseRows).find? (fun row => mnemonicText row.mn = mnemonicText mn)).map TableRow.mn = some mn := by
  cases mn <;> rfl

theorem mnemonicText_injective : Function.Injective mnemonicText := by
  intro mn mn' h
  have hfind := mnemonicText_find mn
  rw [h, mnemonicText_find mn'] at hfind
  exact (Option.some.inj hfind).symm

theorem space_not_mem_mnemonicText (mn : Mnemonic) : ' ' ∉ (mnemonicText mn).toList := by
  cases mn <;> decide

/-- The name is what stands before the first space (R122). -/
theorem lineText_takeWhile (names : Bool) (mn : Mnemonic) (ops : List Operand) :
    (lineText names (.insn mn ops)).toList.takeWhile (· ≠ ' ') = (mnemonicText mn).toList := by
  have name : ∀ c ∈ (mnemonicText mn).toList, decide (c ≠ ' ') = true := by
    intro c hc
    refine decide_eq_true ?_
    rintro rfl
    exact space_not_mem_mnemonicText mn hc
  cases ops with
  | nil => exact List.takeWhile_eq_self_iff.mpr name
  | cons o rest => 
    rw [lineText, String.toList_append, String.toList_append, List.append_assoc, List.takeWhile_append_of_pos name]
    exact List.append_nil _

/-- Settles O39: equal lines have equal names. -/
theorem lineTellsItsMnemonic : Obligations.LineTellsItsMnemonic := by
  unfold Obligations.LineTellsItsMnemonic
  intro names names' mn mn' ops ops' h
  have hname : (mnemonicText mn).toList = (mnemonicText mn').toList := by
    rw [← lineText_takeWhile names mn ops, h, lineText_takeWhile]
  exact mnemonicText_injective (String.toList_injective hname)

end Sys2Proof.Machine
end

section
/-! PROOF. From `exec` to a transaction: what an instruction emits, a transaction on its word emits too, whichever row the
pseudo stage picks (40_datapath.md R130, R140), and its text is the line of the record (R122). -/

namespace Sys2Proof.Machine

open Sys2Proof.Stated

/-! ### A step on an instruction's word -/

/-- A pseudo row's meaning is its base row's (R130). -/
theorem exec_base (i : Instr) (s : State) : exec i.base s = exec i s := by
  cases i <;> rfl

/-- A transaction on an instruction's word answers what the instruction answers, under either option. -/
theorem step_of_encode {s t : State} {i : Instr} (hword : s.word = encode i) (hexec : exec i s = .next t) :
    step s = .next t.settle :=
  step_of_dispatch (hword ▸ dispatch_encode i) ((exec_base i s).trans hexec)

section Renders
variable {i : Instr} {w : Word} {s : State} {r : Record} {txt : String} {q : Option Word}

/-- An instruction renders as the record it emits and the line of that record. -/
theorem renders_of_exec (hword : encode i = w) (hexec : exec i s = .next (s.emit r q))
    (htext : lineText s.useRegNames r = txt) : Renders i w s r txt q := by
  subst hword htext
  exact ⟨hexec, rfl, fun h => step_of_encode h hexec⟩

theorem wordRenders_of_renders (h : Renders i w s r txt q) : WordRenders w s r txt q := by
  obtain ⟨-, -, hstep⟩ := h
  exact fun hw => ⟨_, hstep hw, by simp [State.outputs, ports]⟩

end Renders

/-! ### A line by its number of operands (R122) -/

section Line
variable (names : Bool) (mn : Mnemonic) (a b c : Operand)

theorem lineText_two : lineText names (.insn mn [a, b]) =
    mnemonicText mn ++ " " ++ render names a ++ ", " ++ render names b := by
  simp only [lineText, operandsText, String.append_assoc]

theorem lineText_three : lineText names (.insn mn [a, b, c]) =
    mnemonicText mn ++ " " ++ render names a ++ ", " ++ render names b ++ ", " ++ render names c := by
  simp only [lineText, operandsText, String.append_assoc]

end Line

end Sys2Proof.Machine
end

section
/-! PROOF. The shifts and NOP (41_shift.md R150 to R156), and as words alone JR and the two forms of JALR
(42_jump_register_system.md R160, R161, R163). -/

namespace Sys2Proof.Machine

open Sys2Proof.Stated

section Sll
variable (rs rt rd shamt : RegIx) (s : State)

/-- The NOP pattern is the test of the whole word (R130, R131). -/
theorem nopPattern_iff_word_zero : nopPattern rs rt rd shamt = true ↔ rWord rs rt rd shamt 0 = 0 := by
  have hfields : nopPattern rs rt rd shamt = true ↔ 0#6 = 0#6 ∧ rs = 0 ∧ rt = 0 ∧ rd = 0 ∧ shamt = 0 ∧ 0#6 = 0#6 := by
    simp [nopPattern, and_assoc]
  exact hfields.trans (sixFields_inj ..).symm

/-- What an SLL word emits: NOP for the all-zero word with the option on, else SLL (R150, R156). -/
theorem renderSll_eq : renderSll rs rt rd shamt s =
    if s.pseudoInstructions = true ∧ rWord rs rt rd shamt 0 = 0 then emitPlain .NOP [] s
    else emitShift .SLL rt rd shamt s := by
  simp only [renderSll, Bool.and_eq_true, nopPattern_iff_word_zero]

end Sll

/-- The line of SLL on register 0, in both spellings (R150). -/
theorem lineText_sll_zero (names : Bool) : lineText names (.insn .SLL [.reg 0, .reg 0, .shamt 0]) =
    if names then "SLL $zero, $zero, $zero" else "SLL $0, $0, $0" := by
  cases names <;> decide

/-- Settles O18: SRL and SRA have one meaning each; SLL's is chosen by the test of the whole word. -/
theorem constantShiftsRender : Obligations.ConstantShiftsRender := by
  unfold Obligations.ConstantShiftsRender
  intro rs rt rd shamt s shift w
  have hexec := renderSll_eq rs rt rd shamt s
  refine ⟨fun h => ?_, fun hpseudo hzero => ?_, ?_, ?_⟩
  · exact renders_of_exec rfl (hexec.trans (if_neg h)) (lineText_three ..)
  · exact renders_of_exec rfl (hexec.trans (if_pos ⟨hpseudo, hzero⟩)) rfl
  · exact renders_of_exec rfl rfl (lineText_three ..)
  · exact renders_of_exec rfl rfl (lineText_three ..)

/-- Settles O19: NOP's meaning is that of the all-zero SLL word, under either option. -/
theorem nopRenders : Obligations.NopRenders := by
  unfold Obligations.NopRenders
  intro s
  have hexec := renderSll_eq 0 0 0 0 s
  refine ⟨fun hpseudo => ?_, fun hpseudo => ?_⟩
  · exact renders_of_exec rfl (hexec.trans (if_pos ⟨hpseudo, rfl⟩)) rfl
  · exact renders_of_exec rfl (hexec.trans (if_neg (by simp [hpseudo]))) (lineText_sll_zero s.useRegNames)

/-- Settles O20: no pattern picks out a variable shift. -/
theorem variableShiftsRender : Obligations.VariableShiftsRender := by
  unfold Obligations.VariableShiftsRender
  intro rs rt rd shamt s shift
  refine ⟨?_, ?_, ?_⟩ <;> exact renders_of_exec rfl rfl (lineText_three ..)

/-! ### JR and JALR (R160, R161, R163) -/

section JumpRegister
variable {rs rt rd shamt : RegIx} {s : State}

/-- What a JALR word emits: one operand for `rd = 31` with the option on, else two (R161, R163). -/
theorem renderJalr_eq : renderJalr rs rd s =
    if s.pseudoInstructions = true ∧ rd = 31 then emitPlain .JALR [.reg rs] s
    else emitPlain .JALR [.reg rd, .reg rs] s := by
  simp only [renderJalr, jalrPattern, Bool.and_eq_true, beq_iff_eq]

theorem jr_renders : Renders (.jr rs rt rd shamt) (rWord rs rt rd shamt 0x08) s (.insn .JR [.reg rs])
    ("JR " ++ regText s.useRegNames rs) none :=
  renders_of_exec rfl rfl rfl

theorem jalr_renders_two (h : ¬(s.pseudoInstructions = true ∧ rd = 31)) :
    Renders (.jalr rs rt rd shamt) (rWord rs rt rd shamt 0x09) s (.insn .JALR [.reg rd, .reg rs])
      ("JALR " ++ regText s.useRegNames rd ++ ", " ++ regText s.useRegNames rs) none :=
  renders_of_exec rfl (renderJalr_eq.trans (if_neg h)) (lineText_two ..)

theorem jalr_renders_one (h : s.pseudoInstructions = true ∧ rd = 31) :
    Renders (.jalr rs rt rd shamt) (rWord rs rt rd shamt 0x09) s (.insn .JALR [.reg rs])
      ("JALR " ++ regText s.useRegNames rs) none :=
  renders_of_exec rfl (renderJalr_eq.trans (if_pos h)) rfl

end JumpRegister

/-- Settles O54: each word stands for an instruction that renders so. -/
theorem shiftAndJumpWordsRender : Obligations.ShiftAndJumpWordsRender := by
  unfold Obligations.ShiftAndJumpWordsRender
  intro rs rt rd shamt s reg shift sll jalr
  obtain ⟨hsll, -, hsrl, hsra⟩ := constantShiftsRender rs rt rd shamt s
  obtain ⟨hnop, -⟩ := nopRenders s
  refine ⟨fun h => ?_, fun hpseudo => ?_, ?_, ?_, ?_, fun h => ?_, fun hpseudo hrd => ?_⟩
  · exact wordRenders_of_renders (hsll h)
  · exact wordRenders_of_renders (hnop hpseudo)
  · exact wordRenders_of_renders hsrl
  · exact wordRenders_of_renders hsra
  · exact wordRenders_of_renders jr_renders
  · exact wordRenders_of_renders (jalr_renders_two h)
  · exact wordRenders_of_renders (jalr_renders_one ⟨hpseudo, hrd⟩)

end Sys2Proof.Machine
end

section
/-! PROOF. The jump-register and system instructions (42_jump_register_system.md R160 to R163) and the CP0 placeholder
(48_cop0.md R235). -/

namespace Sys2Proof.Machine

open Sys2Proof.Stated

/-- A pseudo row stands for the word of its base row (R130). -/
theorem encode_base (i : Instr) : encode i.base = encode i := by
  cases i <;> rfl

/-- A pseudo row renders as its base row does: the two have one meaning and one word (R130). -/
theorem renders_of_base {i : Instr} {w : Word} {s : State} {r : Record} {txt : String} {q : Option Word}
    (h : Renders i.base w s r txt q) : Renders i w s r txt q := by
  obtain ⟨hexec, hword, hstep⟩ := h
  exact ⟨(exec_base i s).symm.trans hexec, (encode_base i).symm.trans hword, hstep⟩

/-- Settles O21: JALR's form is chosen by `rd` and the option, and the one-operand constructor renders as its base row,
JALR with `rd = 31`. -/
theorem jumpRegistersRender : Obligations.JumpRegistersRender := by
  unfold Obligations.JumpRegistersRender
  intro rs rt rd shamt s one two jalr
  have hjalr : Renders (.jalr rs rt rd shamt) (rWord rs rt rd shamt 0x09) s jalr.1 jalr.2 none := by
    by_cases h : s.pseudoInstructions = true ∧ rd = 31
    · simpa only [jalr, if_pos h] using jalr_renders_one h
    · simpa only [jalr, if_neg h] using jalr_renders_two h
  refine ⟨jr_renders, hjalr, fun hrd => renders_of_base ?_⟩
  subst hrd
  exact hjalr

/-- Settles O22: each meaning is one plain line without operands, and the code is part of the word alone. -/
theorem syscallAndCp0Render : Obligations.SyscallAndCp0Render := by
  unfold Obligations.SyscallAndCp0Render
  intro code code' s
  exact ⟨renders_of_exec rfl rfl rfl, renders_of_exec rfl rfl rfl⟩

end Sys2Proof.Machine
end

section
/-! PROOF. The register-register ALU group and MOVE (43_alu_register.md R170 to R180), and as words alone ADD, BGEZAL and
BEQ with their pseudo forms MOVE, BAL and B (44_regimm.md R193, R194; 46_branch.md R210, R214). -/

namespace Sys2Proof.Machine

open Sys2Proof.Stated

/-! ### ADD and MOVE (R170, R180) -/

section Add
variable {rs rt rd shamt : RegIx} {s : State}

/-- What an ADD word emits: MOVE for `rt = 0` with the option on, else ADD. -/
theorem renderAdd_eq : renderAdd rs rt rd s =
    if s.pseudoInstructions = true ∧ rt = 0 then emitPlain .MOVE [.reg rd, .reg rs] s
    else emitAlu .ADD rs rt rd s := by
  simp only [renderAdd, movePattern, Bool.and_eq_true, beq_iff_eq]

theorem add_renders_add (h : ¬(s.pseudoInstructions = true ∧ rt = 0)) :
    RendersAlu (.add rs rt rd shamt) (rWord rs rt rd shamt 0x20) .ADD "ADD" rs rt rd s :=
  renders_of_exec rfl (renderAdd_eq.trans (if_neg h)) (lineText_three ..)

theorem add_renders_move (h : s.pseudoInstructions = true ∧ rt = 0) :
    Renders (.add rs rt rd shamt) (rWord rs rt rd shamt 0x20) s (.insn .MOVE [.reg rd, .reg rs])
      ("MOVE " ++ regText s.useRegNames rd ++ ", " ++ regText s.useRegNames rs) none :=
  renders_of_exec rfl (renderAdd_eq.trans (if_pos h)) (lineText_two ..)

end Add

/-- Settles O23: ADD's form is chosen by `rt` and the option, and MOVE renders as its base row, ADD with `rt = 0`. -/
theorem addRendersAddOrMove : Obligations.AddRendersAddOrMove := by
  unfold Obligations.AddRendersAddOrMove
  intro rs rt rd shamt s w move
  refine ⟨add_renders_add, fun hpseudo hrt => add_renders_move ⟨hpseudo, hrt⟩, fun hpseudo hrt => ?_, fun hpseudo hrt => ?_⟩
  · subst hrt
    exact renders_of_base (add_renders_move ⟨hpseudo, rfl⟩)
  · subst hrt
    exact renders_of_base (add_renders_add (by simp [hpseudo]))

/-- Settles O24: the group has one template, and no pattern picks out a word of it. -/
theorem registerAluRenders : Obligations.RegisterAluRenders := by
  unfold Obligations.RegisterAluRenders
  intro rs rt rd shamt s
  refine ⟨?_, ?_, ?_, ?_, ?_, ?_, ?_, ?_, ?_⟩ <;> exact renders_of_exec rfl rfl (lineText_three ..)

/-! ### BGEZAL and BAL, BEQ and B (R193, R194, R210, R214) -/

section Branch
variable {rs rt : RegIx} {imm : Imm16} {s : State}

/-- What a BGEZAL word emits: BAL for `rs = 0` with the option on, else BGEZAL. -/
theorem renderBgezal_eq : renderBgezal rs imm s =
    if s.pseudoInstructions = true ∧ rs = 0 then emitBranch .BAL [] imm s else emitBranch .BGEZAL [.reg rs] imm s := by
  simp only [renderBgezal, balPattern, Bool.and_eq_true, beq_iff_eq]

/-- What a BEQ word emits: B for `rs = rt = 0` with the option on, else BEQ. -/
theorem renderBeq_eq : renderBeq rs rt imm s =
    if s.pseudoInstructions = true ∧ rs = 0 ∧ rt = 0 then emitBranch .B [] imm s
    else emitBranch .BEQ [.reg rs, .reg rt] imm s := by
  simp only [renderBeq, bPattern, Bool.and_eq_true, beq_iff_eq]

theorem bgezal_renders_bgezal (h : ¬(s.pseudoInstructions = true ∧ rs = 0)) :
    RendersBranch (.bgezal rs imm) (iWord 0x01 rs 0x11 imm) .BGEZAL "BGEZAL" rs imm s :=
  renders_of_exec rfl (renderBgezal_eq.trans (if_neg h)) (lineText_two ..)

theorem bgezal_renders_bal (h : s.pseudoInstructions = true ∧ rs = 0) :
    Renders (.bgezal rs imm) (iWord 0x01 rs 0x11 imm) s (.insn .BAL [branchOp s imm]) ("BAL " ++ branchText s imm)
      (some (branchTarget s.address imm)) :=
  renders_of_exec rfl (renderBgezal_eq.trans (if_pos h)) rfl

theorem beq_renders_beq (h : ¬(s.pseudoInstructions = true ∧ rs = 0 ∧ rt = 0)) :
    Renders (.beq rs rt imm) (iWord 0x04 rs rt imm) s (.insn .BEQ [.reg rs, .reg rt, branchOp s imm])
      ("BEQ " ++ regText s.useRegNames rs ++ ", " ++ regText s.useRegNames rt ++ ", " ++ branchText s imm)
      (some (branchTarget s.address imm)) :=
  renders_of_exec rfl (renderBeq_eq.trans (if_neg h)) (lineText_three ..)

theorem beq_renders_b (h : s.pseudoInstructions = true ∧ rs = 0 ∧ rt = 0) :
    Renders (.beq rs rt imm) (iWord 0x04 rs rt imm) s (.insn .B [branchOp s imm]) ("B " ++ branchText s imm)
      (some (branchTarget s.address imm)) :=
  renders_of_exec rfl (renderBeq_eq.trans (if_pos h)) rfl

end Branch

/-- Settles O55: each word stands for an instruction that renders so. -/
theorem addAndBranchWordsRender : Obligations.AddAndBranchWordsRender := by
  unfold Obligations.AddAndBranchWordsRender
  intro rs rt rd shamt imm s reg target add bgezal beq
  refine ⟨fun h => ?_, fun hpseudo hrt => ?_, fun h => ?_, fun hpseudo hrs => ?_, fun h => ?_, fun hpseudo hrs hrt => ?_⟩
  · exact wordRenders_of_renders (add_renders_add h)
  · exact wordRenders_of_renders (add_renders_move ⟨hpseudo, hrt⟩)
  · exact wordRenders_of_renders (bgezal_renders_bgezal h)
  · exact wordRenders_of_renders (bgezal_renders_bal ⟨hpseudo, hrs⟩)
  · exact wordRenders_of_renders (beq_renders_beq h)
  · exact wordRenders_of_renders (beq_renders_b ⟨hpseudo, hrs, hrt⟩)

end Sys2Proof.Machine
end

section
/-! PROOF. The REGIMM branches (44_regimm.md R190 to R194). -/

namespace Sys2Proof.Machine

open Sys2Proof.Stated

/-- Settles O25: the three have one template, and no pattern picks out a word of theirs (R131). -/
theorem regimmBranchesRender : Obligations.RegimmBranchesRender := by
  unfold Obligations.RegimmBranchesRender
  intro rs imm s
  refine ⟨?_, ?_, ?_⟩ <;> exact renders_of_exec rfl rfl (lineText_two ..)

/-- Settles O26: BGEZAL's form is chosen by `rs` and the option, and BAL renders as its base row, BGEZAL with `rs = 0`. -/
theorem bgezalRendersBgezalOrBal : Obligations.BgezalRendersBgezalOrBal := by
  unfold Obligations.BgezalRendersBgezalOrBal
  intro rs imm s w bal full shown
  have hbgezal : Renders (.bgezal rs imm) w s shown.1 shown.2 (some (branchTarget s.address imm)) := by
    by_cases h : s.pseudoInstructions = true ∧ rs = 0
    · rw [show shown = bal from if_pos h]
      exact bgezal_renders_bal h
    · rw [show shown = full from if_neg h]
      exact bgezal_renders_bgezal h
  refine ⟨hbgezal, fun hrs => renders_of_base ?_⟩
  subst hrs
  exact hbgezal

end Sys2Proof.Machine
end

section
/-! PROOF. The direct jumps (45_jump.md R200, R201). -/

namespace Sys2Proof.Machine

open Sys2Proof.Stated

/-- The line of a direct jump, in either spelling of the registers (R200). -/
theorem lineText_jump (names : Bool) (mn : Mnemonic) (field : Target26) (tgt : Word) (label : Option Label) :
    lineText names (.insn mn [.jTgt field tgt label]) =
      mnemonicText mn ++ " " ++ decU field.toNat ++ suffix label := by
  simp only [lineText, operandsText, render, String.append_assoc]

/-- Settles O27: J and JAL emit one jump operand and query its target; no pattern picks out a word of theirs (R131). -/
theorem jumpsRender : Obligations.JumpsRender := by
  unfold Obligations.JumpsRender
  intro target s
  refine ⟨?_, ?_⟩ <;> exact renders_of_exec rfl rfl (lineText_jump ..)

end Sys2Proof.Machine
end

section
/-! PROOF. The equality and comparison branches (46_branch.md R210 to R214). -/

namespace Sys2Proof.Machine

open Sys2Proof.Stated

/-- Settles O28: BEQ's form is chosen by `rs`, `rt` and the option, and B renders as its base row, BEQ with
`rs = rt = 0`. -/
theorem beqRendersBeqOrB : Obligations.BeqRendersBeqOrB := by
  unfold Obligations.BeqRendersBeqOrB
  intro rs rt imm s w b full shown
  have hbeq : Renders (.beq rs rt imm) w s shown.1 shown.2 (some (branchTarget s.address imm)) := by
    by_cases h : s.pseudoInstructions = true ∧ rs = 0 ∧ rt = 0
    · rw [show shown = b from if_pos h]
      exact beq_renders_b h
    · rw [show shown = full from if_neg h]
      exact beq_renders_beq h
  refine ⟨hbeq, fun hrs hrt => renders_of_base ?_⟩
  subst hrs hrt
  exact hbeq

/-- Settles O29: no pattern picks out a word of theirs (R131); BNE's line has three operands, those of BLEZ and BGTZ two,
and `rt` is part of their words alone. -/
theorem comparisonBranchesRender : Obligations.ComparisonBranchesRender := by
  unfold Obligations.ComparisonBranchesRender
  intro rs rt imm s
  refine ⟨?_, ?_, ?_⟩
  · exact renders_of_exec rfl rfl (lineText_three ..)
  · exact renders_of_exec rfl rfl (lineText_two ..)
  · exact renders_of_exec rfl rfl (lineText_two ..)

end Sys2Proof.Machine
end

section
/-! PROOF. The immediate ALU group (47_alu_immediate.md R220 to R228). -/

namespace Sys2Proof.Machine

open Sys2Proof.Stated

/-- Settles O30: the group has one template and LUI its own, and no pattern picks out a word of theirs (R131). -/
theorem immediateAluRenders : Obligations.ImmediateAluRenders := by
  unfold Obligations.ImmediateAluRenders
  intro rs rt imm s
  refine ⟨?_, ?_, ?_, ?_, ?_, ?_, ?_, renders_of_exec rfl rfl (lineText_two ..), rfl, rfl⟩ <;>
    exact renders_of_exec rfl rfl (lineText_three ..)

end Sys2Proof.Machine
end

section
/-! PROOF. The loads and the stores (49_load_store.md R240 to R251). -/

namespace Sys2Proof.Machine

open Sys2Proof.Stated

/-- The line of a load or a store (R240). -/
theorem lineText_mem (names : Bool) (mn : Mnemonic) (rt rs : RegIx) (off : Int) :
    lineText names (.insn mn [.reg rt, .mem off rs]) =
      mnemonicText mn ++ " " ++ regText names rt ++ ", " ++ decS off ++ "(" ++ regText names rs ++ ")" := by
  simp only [lineText_two, render, String.append_assoc]

/-- An instruction with the shared meaning of the loads and stores renders so. -/
theorem rendersMem_of_exec {i : Instr} {w : Word} {mn : Mnemonic} {rs rt : RegIx} {imm : Imm16} {s : State}
    (hword : encode i = w) (hexec : exec i s = emitMem mn rs rt imm s) :
    RendersMem i w mn (mnemonicText mn) rs rt imm s :=
  renders_of_exec hword hexec (lineText_mem ..)

/-- Settles O31: the loads have one template, and no pattern picks out a word of theirs (R131). -/
theorem loadsRender : Obligations.LoadsRender := by
  unfold Obligations.LoadsRender
  intro rs rt imm s
  refine ⟨?_, ?_, ?_, ?_, ?_, ?_, ?_⟩ <;> exact rendersMem_of_exec rfl rfl

/-- Settles O32: the stores have the loads' template, and no pattern picks out a word of theirs (R131). -/
theorem storesRender : Obligations.StoresRender := by
  unfold Obligations.StoresRender
  intro rs rt imm s
  refine ⟨?_, ?_, ?_, ?_, ?_⟩ <;> exact rendersMem_of_exec rfl rfl

end Sys2Proof.Machine
end

section
/-! PROOF. The block never stops and always answers (60_exceptions.md): a run completes and keeps the invariant (R270), a
word is unsupported for one of three causes (R271), and every line is long enough to be told from the sentinel by its first
letter (R141, R272). -/

namespace Sys2Proof.Machine

open Sys2Proof.Stated

/-! ### Runs (R270) -/

/-- A run goes on after a step that completes. -/
theorem run_succ_of_step {M : Host.Core} {s t : M.State} (k : Nat) (h : M.step s = .next t) :
    M.run (k + 1) s = M.run k t := by
  rw [Host.Core.run, h]

/-- A predicate from which every step completes and which every step keeps holds after runs of every length. -/
theorem run_keeps {M : Host.Core} {P : M.State → Prop} (hstep : ∀ s, P s → ∃ t, M.step s = .next t ∧ P t) {s : M.State}
    (k : Nat) (hs : P s) : ∃ t, M.run k s = .next t ∧ P t := by
  induction k generalizing s with
  | zero => exact ⟨s, rfl, hs⟩
  | succ k ih =>
    obtain ⟨t, ht, hP⟩ := hstep s hs
    rw [run_succ_of_step k ht]
    exact ih hP

/-- Settles O4: every step completes, and keeps the invariant by O3. -/
theorem runsNeverStopAndKeepInvariant : Obligations.RunsNeverStopAndKeepInvariant := by
  unfold Obligations.RunsNeverStopAndKeepInvariant
  have hstep (s : State) (hs : s.Inv) : ∃ t : State, step s = .next t ∧ t.Inv :=
    ⟨_, step_eq_tableRecord s, stepKeepsInvariant s _ hs (step_eq_tableRecord s)⟩
  exact fun s k hs => run_keeps (M := core) hstep k hs

/-! ### The three causes (R271) -/

/-- The words of a cause (R271). -/
def causeWords : Cause → Word → Prop
  | .primaryOpcode => dashOpcode
  | .specialFunct => dashFunct
  | .regimmSelector => dashSelector

section Causes
variable {w : Word} {c : Cause}

/-- Under opcode 0x00 the only cause is U2. -/
theorem words_of_special (hop : opcodeOf w = 0) : causeWords c w ↔ .specialFunct = c ∧ dashFunct w := by
  cases c <;> simp [causeWords, dashOpcode, dashSelector, hop]

/-- Under opcode 0x01 the only cause is U3. -/
theorem words_of_regimm (hop : opcodeOf w = 1) : causeWords c w ↔ .regimmSelector = c ∧ dashSelector w := by
  cases c <;> simp [causeWords, dashOpcode, dashFunct, hop]

/-- Under every other opcode the only cause is U1. -/
theorem words_of_primary (h0 : opcodeOf w ≠ 0) (h1 : opcodeOf w ≠ 1) :
    causeWords c w ↔ .primaryOpcode = c ∧ dashOpcode w := by
  cases c <;> simp [causeWords, dashFunct, dashSelector, h0, h1]

/-- The SPECIAL map answers U2 on its dashes and an instruction everywhere else. -/
theorem dispatchSpecial_eq_error_iff (hop : opcodeOf w = 0) :
    dispatchSpecial (extract w) = .error c ↔ causeWords c w := by
  rw [words_of_special hop, dashFunct, functOf_eq]
  unfold dispatchSpecial
  split
  case h_20 =>
    have := (extract w).funct.isLt
    simp only [imp_false] at *
    rw [Except.error.injEq, iff_self_and]
    omega
  all_goals
    rename_i hf
    simp [hf]

/-- The REGIMM map answers U3 on its dashes and an instruction everywhere else. -/
theorem dispatchRegimm_eq_error_iff (hop : opcodeOf w = 1) :
    dispatchRegimm (extract w) = .error c ↔ causeWords c w := by
  rw [words_of_regimm hop, dashSelector, rtOf_eq]
  unfold dispatchRegimm regimmSelector
  split
  case h_5 =>
    have := (extract w).rt.isLt
    simp only [imp_false] at *
    rw [Except.error.injEq, iff_self_and]
    omega
  all_goals
    rename_i hrt
    simp [hrt]

/-- The dispatcher answers a cause exactly on the words of that cause. -/
theorem dispatch_eq_error_iff : dispatch (extract w) = .error c ↔ causeWords c w := by
  have hopcode := opcodeOf_eq w
  unfold dispatch
  split
  case h_1 hop => exact dispatchSpecial_eq_error_iff (hopcode.trans hop)
  case h_2 hop => exact dispatchRegimm_eq_error_iff (hopcode.trans hop)
  case h_30 =>
    have := (extract w).opcode.isLt
    simp only [imp_false] at *
    rw [words_of_primary (by omega) (by omega), Except.error.injEq, iff_self_and, dashOpcode]
    omega
  all_goals
    rename_i hop
    rw [hop] at hopcode
    rw [words_of_primary (by omega) (by omega)]
    simp [dashOpcode, hopcode]

/-- The pseudo stage plays no part in the cause (R130). -/
theorem decode_eq_error_iff {pseudo : Bool} : decode pseudo w = .error c ↔ causeWords c w := by
  rw [← dispatch_eq_error_iff]
  refine ⟨dispatch_of_decode_error, fun h => ?_⟩
  rw [decode, h]

end Causes

/-- Settles O10: the cause is the dispatcher's, and every cause ends the step in the sentinel by O8. -/
theorem decoderNamesTheCause : Obligations.DecoderNamesTheCause := by
  unfold Obligations.DecoderNamesTheCause
  refine ⟨fun pseudo w => ⟨decode_eq_error_iff, decode_eq_error_iff, decode_eq_error_iff⟩, ?_⟩
  intro s t c hdecode hstep
  rw [unsupportedWordEndsInSentinel s _ c hdecode] at hstep
  obtain rfl := Host.Outcome.next.inj hstep
  simp [State.outputs, ports]

/-! ### The length of a line (R141) -/

theorem digits_length_pos (fuel n : Nat) : 0 < (digits fuel n).length := by
  cases fuel with
  | zero => exact Nat.one_pos
  | succ fuel =>
    unfold digits
    split
    next => exact Nat.one_pos
    next =>
      rw [List.length_append]
      exact Nat.add_pos_right _ Nat.one_pos

theorem decU_length_pos (n : Nat) : 0 < (decU n).length := by
  rw [← String.length_toList, decU_toList]
  exact digits_length_pos n n

theorem decS_length_pos (v : Int) : 0 < (decS v).length := by
  unfold decS
  split
  · rw [String.length_append]
    exact Nat.add_pos_right _ (decU_length_pos _)
  · exact decU_length_pos _

theorem regText_length_pos (names : Bool) (i : RegIx) : 0 < (regText names i).length := by
  cases names with
  | true => exact (by decide : ∀ i, 0 < (regText true i).length) i
  | false =>
    rw [regText, if_neg Bool.false_ne_true, String.length_append]
    exact Nat.add_pos_right _ (decU_length_pos _)

theorem render_length_pos (names : Bool) (o : Operand) : 0 < (render names o).length := by
  cases o with
  | reg i => exact regText_length_pos names i
  | shamt i => exact regText_length_pos names i
  | imm v => exact decS_length_pos v
  | mem off base =>
    have := decS_length_pos off
    simp only [render, String.length_append]
    omega
  | brTgt off tgt label =>
    rw [render, String.length_append]
    exact Nat.add_pos_left (decS_length_pos off) _
  | jTgt field tgt label =>
    rw [render, String.length_append]
    exact Nat.add_pos_left (decU_length_pos _) _

theorem operandsText_length_pos (names : Bool) (o : Operand) (rest : List Operand) :
    0 < (operandsText names (o :: rest)).length := by
  have ho := render_length_pos names o
  cases rest with
  | nil => exact ho
  | cons =>
    simp only [operandsText, String.length_append]
    omega

/-- A name begins with an upper-case letter (R123). -/
theorem mnemonicText_head (mn : Mnemonic) :
    ∃ c cs, (mnemonicText mn).toList = c :: cs ∧ 65 ≤ c.toNat ∧ c.toNat ≤ 90 := by
  cases mn <;> exact ⟨_, _, rfl, by decide, by decide⟩

theorem mnemonicText_length_pos (mn : Mnemonic) : 0 < (mnemonicText mn).length := by
  obtain ⟨c, cs, hname, -⟩ := mnemonicText_head mn
  rw [← String.length_toList, hname]
  exact Nat.succ_pos _

/-- A name that may stand alone on a line has three characters (R141). -/
theorem mnemonicText_length_of_no_operands {mn : Mnemonic} (h : (Record.insn mn []).wf = true) :
    3 ≤ (mnemonicText mn).length := by
  have rows : ∀ row ∈ pseudoRows ++ baseRows, fitsTemplate [] row.template = true → 3 ≤ (mnemonicText row.mn).length := by
    decide
  obtain ⟨row, hrow, htest⟩ := List.any_eq_true.mp h
  obtain ⟨hmn, hfits⟩ := Bool.and_eq_true_iff.mp htest
  obtain rfl := eq_of_beq hmn
  exact rows row hrow hfits

/-- A line begins with the name of its mnemonic (R122). -/
theorem lineText_eq_append (names : Bool) (mn : Mnemonic) (ops : List Operand) :
    ∃ rest, lineText names (.insn mn ops) = mnemonicText mn ++ rest := by
  cases ops with
  | nil => exact ⟨"", by rw [lineText, String.append_empty]⟩
  | cons o rest => exact ⟨_, by rw [lineText, String.append_assoc]⟩

/-- A supported line begins with an upper-case letter (R272). -/
theorem lineText_head (names : Bool) (mn : Mnemonic) (ops : List Operand) :
    ∃ c cs, (lineText names (.insn mn ops)).toList = c :: cs ∧ 65 ≤ c.toNat ∧ c.toNat ≤ 90 := by
  obtain ⟨rest, hline⟩ := lineText_eq_append names mn ops
  obtain ⟨c, cs, hname, hupper⟩ := mnemonicText_head mn
  exact ⟨c, cs ++ rest.toList, by rw [hline, String.toList_append, hname, List.cons_append], hupper⟩

/-- No line of a record the block can answer is shorter than three characters (R141). -/
theorem three_le_lineText_length (names : Bool) {r : Record} (h : r.wf = true) : 3 ≤ (lineText names r).length := by
  cases r with
  | unsupported => exact (by decide : 3 ≤ pSentinel.length)
  | insn mn ops =>
    cases ops with
    | nil => exact mnemonicText_length_of_no_operands h
    | cons o rest =>
      have hname := mnemonicText_length_pos mn
      have hspace : " ".length = 1 := rfl
      have hops := operandsText_length_pos names o rest
      rw [lineText, String.length_append, String.length_append, hspace]
      omega

/-- A line that the table gives a word in the zero-configuration form is the text of a transaction (10_state.md R36). -/
theorem exists_step_text (w : Word) {txt : String} (h : lineText true (tableRecord true w 0 (fun _ => none)) = txt) :
    ∃ s t : State, step s = .next t ∧ t.text = some txt := by
  obtain ⟨t, hstep, -, htext⟩ := zeroConfigurationRenders w State.reset
  exact ⟨_, t, hstep, h ▸ htext⟩

/-- Settles O5: every step emits the line of a template's record; the four lines are those of the words with every field
zero but the opcode. -/
theorem everyTransactionEmitsText : Obligations.EveryTransactionEmitsText := by
  unfold Obligations.EveryTransactionEmitsText
  refine ⟨fun s => ?_, ?_⟩
  · obtain ⟨r, hstep, hr⟩ := step_emits s
    exact ⟨_, _, hstep, by rw [State.settle_text, State.emit_text], three_le_lineText_length s.useRegNames hr⟩
  · simp only [List.forall_mem_cons]
    exact ⟨exists_step_text 0x00000000 (by decide), exists_step_text 0x40000000 (by decide),
      exists_step_text 0x10000000 (by decide), exists_step_text 0x08000000 (by decide), by simp⟩

/-! ### The sentinel (R272) -/

theorem pSentinel_length : pSentinel.length = 23 := by decide

theorem pSentinel_head : ∃ cs, pSentinel.toList = 'u' :: cs := ⟨_, rfl⟩

/-- The sentinel begins with a lower-case letter and a supported line does not. -/
theorem lineText_insn_ne_sentinel (names : Bool) (mn : Mnemonic) (ops : List Operand) :
    lineText names (.insn mn ops) ≠ "unsupported instruction" := by
  intro heq
  obtain ⟨c, cs, hline, -, hupper⟩ := lineText_head names mn ops
  rw [heq] at hline
  obtain ⟨rfl, -⟩ := List.cons.inj hline
  exact absurd hupper (by decide)

/-- Settles O11: the text is the record's line, and its first letter tells the two kinds of record apart. -/
theorem sentinelIsDistinguishable : Obligations.SentinelIsDistinguishable := by
  unfold Obligations.SentinelIsDistinguishable
  intro s t hstep
  obtain ⟨r, hs, hr⟩ := step_emits s
  obtain rfl : (s.emit r r.target).settle = t := by simpa [hs] using hstep
  have hlength := three_le_lineText_length s.useRegNames hr
  have hne : lineText s.useRegNames r ≠ "" := fun h => absurd (h ▸ hlength) (by decide)
  rw [State.settle_text, State.emit_text, State.settle_record, State.emit_record]
  refine ⟨_, rfl, hne, ?_⟩
  cases r with
  | unsupported => exact ⟨iff_of_true rfl rfl, fun h => absurd rfl h, fun _ => ⟨pSentinel_length, pSentinel_head⟩⟩
  | insn mn ops =>
    have hsentinel := lineText_insn_ne_sentinel s.useRegNames mn ops
    exact ⟨iff_of_false hsentinel (by simp), fun _ => ⟨hlength, lineText_head ..⟩, by simp⟩

end Sys2Proof.Machine
end

section
/-! PROOF. Reset and sequences of transactions (70_reset_and_hazards.md): what holds at reset (R290), the independence of
transactions (R291, R294), and the addresses of a listing (R293). -/

namespace Sys2Proof.Machine

open Sys2Proof.Stated

/-! ### Reset (R290) -/

/-- Settles O1: the values of the table in R290. -/
theorem resetHasDefaultOptionsAndNoOutput : Obligations.ResetHasDefaultOptionsAndNoOutput := by
  unfold Obligations.ResetHasDefaultOptionsAndNoOutput
  exact ⟨rfl, rfl, rfl, rfl⟩

/-- Settles O2: the table is empty and held, and nothing has been emitted. -/
theorem resetMeetsInvariant : Obligations.ResetMeetsInvariant := by
  unfold Obligations.ResetMeetsInvariant
  exact {
    symbols_wf := rfl
    symbolsDuring_wf := fun _ h => nomatch h
    outputs_consistent := .inl ⟨rfl, rfl, rfl⟩ }

/-! ### Sequences of transactions (R291, R294) -/

section Transcript
variable {x : Inputs} {xs : List Inputs} {s s' t t' : State}

theorem transact_completes (x : Inputs) (s : State) : ∃ t, transact x s = .next t :=
  ⟨_, step_eq_tableRecord _⟩

/-- A transaction's outputs are a function of what the host supplies for it (10_state.md R37). -/
theorem transact_outputs_eq (h : transact x s = .next t) (h' : transact x s' = .next t') : t.outputs = t'.outputs := by
  refine equalInputsGiveEqualOutputs (s.supply x) (s'.supply x) t t' rfl rfl rfl rfl (fun a => ?_) h h'
  rw [State.lookup_of_held _ rfl, State.lookup_of_held _ rfl, State.supply_symbols, State.supply_symbols]

theorem transcript_cons (h : transact x s = .next t) : transcript (x :: xs) s = t.outputs :: transcript xs t := by
  rw [transcript, h]

/-- One transaction gives one output, the same from every state. -/
theorem transcript_singleton (h : transact x s = .next t) (s' : State) : transcript [x] s' = [t.outputs] := by
  obtain ⟨t', h'⟩ := transact_completes x s'
  rw [transcript_cons h', transact_outputs_eq h' h, transcript]

theorem transcript_length (xs : List Inputs) (s : State) : (transcript xs s).length = xs.length := by
  induction xs generalizing s with
  | nil => rfl
  | cons x xs ih =>
    obtain ⟨t, h⟩ := transact_completes x s
    rw [transcript_cons h, List.length_cons, List.length_cons, ih]

theorem transcript_eq_flatMap (xs : List Inputs) (s : State) :
    transcript xs s = xs.flatMap (fun x => transcript [x] State.reset) := by
  induction xs generalizing s with
  | nil => rfl
  | cons x xs ih =>
    obtain ⟨t, h⟩ := transact_completes x s
    rw [transcript_cons h, List.flatMap_cons, transcript_singleton h, ih t, List.singleton_append]

end Transcript

/-- Settles O49: no transaction stops, and none reads what an earlier one left. -/
theorem transactionsAreIndependent : Obligations.TransactionsAreIndependent := by
  unfold Obligations.TransactionsAreIndependent
  exact fun xs s => ⟨transcript_eq_flatMap xs s, transcript_length xs s⟩

/-! ### A listing (R293) -/

/-- Settles O53, by induction on the words with the base address free. -/
theorem listingAddressesAreConsecutive : Obligations.ListingAddressesAreConsecutive := by
  unfold Obligations.ListingAddressesAreConsecutive
  intro base names pseudo tab ws k w hw
  induction ws generalizing base k with
  | nil => simp at hw
  | cons v ws ih =>
    rw [listing]
    cases k with
    | zero =>
      obtain rfl : v = w := by simpa using hw
      simp
    | succ k =>
      rw [List.getElem?_cons_succ] at hw ⊢
      have haddress : base + 4 + BitVec.ofNat 32 (4 * k) = base + BitVec.ofNat 32 (4 * (k + 1)) := by bv_omega
      rw [ih (base + 4) k hw, haddress]

end Sys2Proof.Machine
end
